-- ==== Sys2Proof/Word.lean ====
section
/-! DEFINITION. The word types of the Incamo WT-8: frames are sequences of bytes (R174), and the
frame check runs on a 16-bit register (section 12.1). Every other quantity of the manual is a count,
a length or a measured value, and is a `Nat` or an `Int`. -/

namespace Sys2Proof

/-- One byte of a frame. -/
abbrev Byte := BitVec 8

/-- The register of the cyclic redundancy check, section 12.1. -/
abbrev Crc := BitVec 16

end Sys2Proof
end

