-- ==== Sys2Proof/Syntax.lean ====
section
/-! DEFINITION. The commands the block takes: one constructor per row of spec/opcode_table.json, in
the table's order. The table gives the rows no bit fields; the operands are those the rules give each
row (INVENTORY.md, Instructions). -/

namespace Sys2Proof

/-- The two serial links (chapter 12). -/
inductive Link where
  | aLink
  | mLink
  deriving DecidableEq, Repr

/-- One row of spec/opcode_table.json each. A frame operand is the bytes received between the link's
start and end symbols, envelope and CRC included (section 12.1). The Command Unit's rows take their
tag, code and arguments from the front of the command queue (R180), and the SEND rows what they send
from the queues, so these rows have no operand. -/
inductive Instr where
  /-- SHOT_RECORD (R1, R173): a frame of kind 0x11 arrives on the A-link. -/
  | shotRecord (frame : List Byte)
  /-- CONCENTRATOR_MESSAGE (R176): a frame of kind 0x12 arrives on the A-link. -/
  | concentratorMessage (frame : List Byte)
  /-- RELAY_MESSAGE (R180): a frame of kind 0x32 arrives on the M-link. -/
  | relayMessage (frame : List Byte)
  /-- COMMAND_FRAME (R180): a frame of kind 0x31 arrives on the M-link. -/
  | commandFrame (frame : List Byte)
  /-- PULSE_EDGE (R58): the level on LENGTH PULSE becomes `high`. -/
  | pulseEdge (high : Bool)
  /-- SHELL_DETECT_CHANGE (R62): the level on SHELL DETECT becomes `high`. -/
  | shellDetectChange (high : Bool)
  /-- DEBOUNCE_EXPIRY (R62). -/
  | debounceExpiry
  /-- REFERENCE_INTERVAL_EXPIRY (R27) of one channel. -/
  | referenceIntervalExpiry (channel : Fin 8)
  /-- REFERENCE_TIMEOUT (R35) of one channel. -/
  | referenceTimeout (channel : Fin 8)
  /-- DWELL_LIMIT (R81) of one context. -/
  | dwellLimit (context : Fin 4)
  /-- TAIL_TIMEOUT (R83) of one context. -/
  | tailTimeout (context : Fin 4)
  /-- PARK_DRAIN_LIMIT (R152). -/
  | parkDrainLimit
  /-- DRAINED_REPORT (R151). -/
  | drainedReport
  /-- A_LINK_LOCK_LOST (R37, R175); `partlyReceived` says whether a frame was being received (R173). -/
  | aLinkLockLost (partlyReceived : Bool)
  /-- A_LINK_LOCK_GAINED (R175). -/
  | aLinkLockGained
  /-- M_LINK_LOCK_LOST (R179); `partlyReceived` says whether a frame was being received (R173). -/
  | mLinkLockLost (partlyReceived : Bool)
  /-- M_LINK_LOCK_GAINED (R179). -/
  | mLinkLockGained
  /-- SEND_REFERENCE_REQUEST (R31, R177). -/
  | sendReferenceRequest
  /-- SEND_RELAYED_MESSAGE (R177). -/
  | sendRelayedMessage
  /-- SEND_REPLY (R179). -/
  | sendReply
  /-- SEND_NOTICE (R168). -/
  | sendNotice
  /-- SEND_REPORT_FRAME (R114). -/
  | sendReportFrame
  /-- SEND_WALL_SAMPLE (R157). -/
  | sendWallSample
  /-- SEND_CONCENTRATOR_MESSAGE (R176). -/
  | sendConcentratorMessage
  /-- SEND_FORWARDED_RECORD (R178). -/
  | sendForwardedRecord
  /-- HARD_RESET (R184): RESET is asserted, or power comes on. -/
  | hardReset
  /-- IDENTIFY, code 0x01 (R181). -/
  | identify
  /-- LOAD_CHANNEL, code 0x02 (R127). -/
  | loadChannel
  /-- LOAD_VELOCITY, code 0x03 (R128). -/
  | loadVelocity
  /-- LOAD_BANK, code 0x04 (R129). -/
  | loadBank
  /-- LOAD_LINE, code 0x05 (R130). -/
  | loadLine
  /-- LOAD_SHORT_FORM, codes 0x02 to 0x05 with arguments of the short form's length (R132). -/
  | loadShortForm
  /-- READ_TABLE, code 0x06 (R133). -/
  | readTable
  /-- ACTIVATE, code 0x07 (R134). -/
  | activate
  /-- SELECT_BANK, code 0x08 (R142). -/
  | selectBank
  /-- FORCE_HEAD, code 0x09 (R65). -/
  | forceHead
  /-- FORCE_TAIL, code 0x0A (R66). -/
  | forceTail
  /-- PARK, code 0x0B (R149). -/
  | park
  /-- UNPARK, code 0x0C (R150). -/
  | unpark
  /-- FETCH_REPORT, code 0x0D (R110). -/
  | fetchReport
  /-- RELEASE_REPORT, code 0x0E (R88). -/
  | releaseReport
  /-- READ_SNAPSHOT, code 0x0F (R159). -/
  | readSnapshot
  /-- ARM_CAPTURE, code 0x10 (R161). -/
  | armCapture
  /-- READ_CAPTURE, code 0x11 (R163). -/
  | readCapture
  /-- READ_EVENTS, code 0x12 (R170). -/
  | readEvents
  /-- CLEAR_EVENTS, code 0x13 (R171). -/
  | clearEvents
  /-- SET_EVENT_MASK, code 0x14 (R172). -/
  | setEventMask
  /-- READ_COUNTERS, code 0x15 (R182). -/
  | readCounters
  /-- RESTART, code 0x16 (R183). -/
  | restart
  /-- UNKNOWN_COMMAND, any other code (R180). -/
  | unknownCommand
  /-- LINK_FRAME_DISCARDED (R173): a frame that fails a check arrives on a link. -/
  | linkFrameDiscarded (link : Link) (frame : List Byte)
  /-- FRAME_SEND_COMPLETE (R177, R179): the frame a link is sending reaches its end. -/
  | frameSendComplete (link : Link)
  /-- RESET_RELEASE (R184, R70): RESET is released. -/
  | resetRelease
  deriving DecidableEq, Repr

end Sys2Proof
end

