-- ==== Sys2Proof/Decode.lean ====
section
/-! DEFINITION. The command a word spells by the table's bits. -/

namespace Sys2Proof

/-- spec/opcode_table.json gives no row any bits, so no word spells a command: the commands reach the
part as frames, edges and expiries (DESIGN CHOICE, log 20). -/
def decodeTableWord (_nbits _w : Nat) : Option Instr := .none

end Sys2Proof
end

