-- ==== Sys2Proof/Config.lean ====
section
/-! DEFINITION. What one part fixes: the capacities the manual gives its queues, the sizes IDENTIFY
reports, and the free values, which have no body. -/

namespace Sys2Proof

/-- Command queue, R180. -/
def Config.commandPlaces : Nat := 4
/-- Reply queue, R180. -/
def Config.replyPlaces : Nat := 8
/-- A-out queue, R177. -/
def Config.aOutPlaces : Nat := 8
/-- Relay queue, R176. -/
def Config.relayPlaces : Nat := 16
/-- Forward queue, R178. -/
def Config.forwardPlaces : Nat := 16
/-- Live queue, R156. -/
def Config.livePlaces : Nat := 64
/-- Each notice queue, R167. -/
def Config.noticePlaces : Nat := 16
/-- Excursion list, R103. -/
def Config.excursionPlaces : Nat := 32
/-- Zones of a wall map, R91. -/
def Config.zones : Nat := 128
/-- The largest payload of a frame, R173. -/
def Config.largestPayload : Nat := 8201

/-- FREE VALUE, DESIGN CHOICE (log 10): what an unsigned field of `width` bytes carries when its
value is `256 ^ width` or more. R174 gives the field's width and states no content for such a value.
It has no body, so nothing can be proved of it. -/
opaque Config.unstatedUnsigned (width value : Nat) : Nat

/-- FREE VALUE, DESIGN CHOICE (log 10): what a signed field of `width` bytes carries when its value
lies outside the range of two's complement in that width (R174). -/
opaque Config.unstatedSigned (width : Nat) (value : Int) : Nat

end Sys2Proof
end

