-- ==== Sys2Proof/Machine/State.lean ====
section
/-! DEFINITION. The whole state of the Incamo WT-8, block by block (00_scope.md), as plain data, and
the state after a hard reset. -/

namespace Sys2Proof.Machine

/-! ### Frames -/

/-- A frame without its length and CRC, which follow from the rest (R174). -/
structure Frame where
  kind : Byte
  flags : Byte
  payload : List Byte
  deriving DecidableEq, Repr

/-- A relayed message: payload and flags byte are carried unchanged (R176, R177). -/
structure Message where
  flags : Byte
  payload : List Byte
  deriving DecidableEq, Repr

/-- A frame waiting in the A-out queue (R177). -/
inductive AOut where
  | request (channel : Fin 8) (tag : Nat)
  | relayed (message : Message)
  deriving DecidableEq, Repr

/-! ### Tables (chapter 8) -/

inductive PulseEdge where
  | rising
  | falling
  | both
  deriving DecidableEq, Repr

inductive Polarity where
  | activeHigh
  | activeLow
  deriving DecidableEq, Repr

/-- R178. -/
inductive ForwardMode where
  | none
  | rejected
  | all
  deriving DecidableEq, Repr

/-- A channel entry: the fields of R127 after the slot, in its order. -/
structure ChannelEntry where
  enabled : Bool
  g1Start : Nat
  g1Length : Nat
  b1Threshold : Nat
  b2SpacingMin : Nat
  b2SpacingMax : Nat
  b2Threshold : Nat
  peakWindow : Nat
  fraction : Nat
  r1Start : Nat
  r1Length : Nat
  rSpacingMin : Nat
  rSpacingMax : Nat
  rThreshold : Nat
  rnom : Nat
  refTolerance : Nat
  refInterval : Nat
  velocityTable : Nat
  trim : Int
  headAngle : Nat
  holdLimit : Nat
  live : Bool
  forward : ForwardMode
  deriving DecidableEq, Repr

/-- One point of a velocity table (R128). -/
structure VelocityPoint where
  temperature : Nat
  velocity : Nat
  deriving DecidableEq, Repr

/-- A velocity table: its points in ascending order (R128). -/
structure VelocityTable where
  points : List VelocityPoint
  deriving DecidableEq, Repr

/-- A product bank: the fields of R129 after the identifier, in its order. -/
structure ProductBank where
  productCode : Nat
  nominal : Nat
  lowerTolerance : Nat
  upperTolerance : Nat
  plausibleMin : Nat
  plausibleMax : Nat
  contraction : Nat
  zoneLength : Nat
  sectors : Nat
  helixPitch : Nat
  mergeGap : Nat
  minExcursionShots : Nat
  minSectors : Nat
  deriving DecidableEq, Repr

/-- The line setup: the fields of R130, in its order. -/
structure LineSetup where
  pulseEdge : PulseEdge
  umPerPulse : Nat
  polarity : Polarity
  debounce : Nat
  ringOffset : Nat
  tailMargin : Nat
  tailTimeout : Nat
  dwellLimit : Nat
  refTimeout : Nat
  keepReference : Bool
  parkDrainLimit : Nat
  deriving DecidableEq, Repr

/-- A complete set of tables; an absent entry is one not present (R126). -/
structure TableSet where
  channels : Vector (Option ChannelEntry) 8
  velocities : Vector (Option VelocityTable) 4
  banks : Vector (Option ProductBank) 4
  line : Option LineSetup
  deriving DecidableEq, Repr

/-- No entry present. -/
def TableSet.empty : TableSet where
  channels := Vector.replicate 8 .none
  velocities := Vector.replicate 4 .none
  banks := Vector.replicate 4 .none
  line := .none

/-- The Table Store (R126). -/
structure Tbs where
  staged : TableSet
  active : TableSet
  activeValid : Bool
  generation : Nat
  activationPending : Bool
  selectedBank : Fin 4
  deriving DecidableEq, Repr

/-! ### Shot records and outcomes (chapter 1) -/

/-- The outcomes of R9. -/
inductive ShotOutcome where
  | accepted
  | referenceAccepted
  | unknownChannel
  | badLength
  | unconfigured
  | parked
  | noShell
  | beforeHead
  | noB1
  | noB2
  | edge
  | noTemperature
  | implausible
  | lateReference
  | outOfTolerance
  deriving DecidableEq, Repr

/-- The fields of a shot record, samples as taken under R2. -/
structure ShotRecord where
  channel : Nat
  kind : Nat
  tag : Nat
  sequence : Nat
  temperature : Nat
  sampleCount : Nat
  samples : List Int
  deriving DecidableEq, Repr

/-- The echo times a record's timing reached (R9, R17). -/
structure EchoTimes where
  t1 : Option Nat
  t2 : Option Nat
  transit : Option Nat
  deriving DecidableEq, Repr

/-- One channel's state in the Echo Timing Unit (section 1.8). -/
structure EtuChannel where
  prevSeq : Option Nat
  heldTemp : Option Nat
  holdAge : Nat
  lastOutcome : Option ShotOutcome
  deriving DecidableEq, Repr

/-! ### References (chapter 2) -/

/-- The reference state of R22. -/
structure RefState where
  rmeas : Nat
  unreferenced : Bool
  deriving DecidableEq, Repr

/-- The phase of an outstanding request; SENT holds the timeout counter (R28). -/
inductive RequestPhase where
  | queued
  | sent (timeout : Nat)
  deriving DecidableEq, Repr

/-- An outstanding request (R28). -/
structure Request where
  tag : Nat
  phase : RequestPhase
  deriving DecidableEq, Repr

/-- One channel's state in the Reference Scheduler. An absent `interval` is a channel without a
counter (R26). -/
structure RfsChannel where
  refState : Option RefState
  backlog : Nat
  interval : Option Nat
  request : Option Request
  deriving DecidableEq, Repr

/-- The Reference Scheduler. `drainReports` counts the drained reports it has sent and the SCS has
not yet taken (R39, R151; log 9). -/
structure Rfs where
  channels : Vector RfsChannel 8
  tagCounter : Nat
  drainReports : Nat
  deriving DecidableEq, Repr

/-! ### Tracking (chapter 4) -/

/-- A detector level (R61). -/
inductive Level where
  | active
  | inactive
  deriving DecidableEq, Repr

/-- The Tracking Unit. The raw level follows from the pin and the polarity (R61), and the level a
present timer waits for is the one `detectorLevel` is not (R62). -/
structure Tru where
  lengthCounter : Nat
  pulseLevel : Bool
  detectorLevel : Level
  debounce : Option Nat
  deriving DecidableEq, Repr

/-! ### Shell contexts and wall maps (chapters 5 and 6) -/

/-- The class of an accepted shot (R54). -/
inductive ShotClass where
  | thin
  | within
  | thick
  deriving DecidableEq, Repr

/-- The kind of a run or excursion (R100). -/
inductive RunKind where
  | thin
  | thick
  deriving DecidableEq, Repr

/-- A cell of the wall map (R94). -/
structure Cell where
  count : Nat
  min : Option Nat
  max : Option Nat
  sum : Nat
  deriving DecidableEq, Repr

/-- An empty cell (R94). -/
def Cell.empty : Cell := ⟨0, .none, .none, 0⟩

/-- The commit state of a run: not committed, or committed and holding a list entry or not (R100). -/
inductive Commit where
  | no
  | listed
  | unlisted
  deriving DecidableEq, Repr

/-- The run of an active run slot (R100). -/
structure Run where
  kind : RunKind
  startPos : Nat
  endPos : Nat
  extreme : Nat
  firstSector : Nat
  shots : Nat
  commit : Commit
  deriving DecidableEq, Repr

/-- An entry of the excursion list (R103). -/
structure Excursion where
  channel : Fin 8
  kind : RunKind
  startPos : Nat
  endPos : Nat
  extreme : Nat
  firstSector : Nat
  shots : Nat
  deriving DecidableEq, Repr

/-- The irregularity flags (section 5.1). -/
structure Irregularity where
  tailForced : Bool
  tailCut : Bool
  dwell : Bool
  tailStalled : Bool
  excursionsOverflowed : Bool
  deriving DecidableEq, Repr

/-- No irregularity. -/
def Irregularity.none : Irregularity := ⟨false, false, false, false, false⟩

/-- The reject counts of a context (R86, R87). -/
structure Rejects where
  beforeHead : Nat
  noB1 : Nat
  noB2 : Nat
  edge : Nat
  noTemperature : Nat
  implausible : Nat
  deriving DecidableEq, Repr

/-- The state of a context that is not FREE, with what it keeps in that state: the open time while
OPEN, the tail mark from CLOSING on, the tail timer and completion length while CLOSING (R71, R79). -/
inductive Phase where
  | opened (openTime : Nat)
  | closing (tailMark tailTimer completionLength : Nat)
  | complete (tailMark : Nat)
  deriving DecidableEq, Repr

/-- The contents of a context that is not FREE (section 5.1). -/
structure Shell where
  phase : Phase
  sequence : Nat
  generation : Nat
  bank : ProductBank
  headMark : Nat
  irregular : Irregularity
  accepted : Nat
  wallMin : Option Nat
  wallMax : Option Nat
  wallSum : Nat
  stale : Nat
  rejects : Rejects
  missed : Nat
  beyondMap : Nat
  spill : Nat
  map : List (List Cell)
  runs : Vector (Option Run) 8
  excursions : List Excursion
  overflow : Nat
  deriving DecidableEq, Repr

/-- The operating modes (R144). -/
inductive Mode where
  | unconfigured
  | standby
  | measuring
  | parking
  | parked
  deriving DecidableEq, Repr

/-- The Shell Context Store; a FREE context is absent (R71). -/
structure Scs where
  contexts : Vector (Option Shell) 4
  nextSequence : Nat
  mode : Mode
  parkRequest : Bool
  drainTimer : Option Nat
  deriving DecidableEq, Repr

/-! ### Report stream (chapter 7) -/

/-- R110. -/
inductive Detail where
  | summary
  | zones
  | full
  deriving DecidableEq, Repr

/-- The contents of a STREAMING cursor (R109). -/
structure Stream where
  sequence : Nat
  detail : Detail
  frameCount : Nat
  next : Nat
  deriving DecidableEq, Repr

/-! ### Live data (chapter 10) -/

/-- A wall sample (R155). -/
structure WallSample where
  channel : Fin 8
  shotSequence : Nat
  contextSequence : Nat
  position : Nat
  zone : Nat
  sector : Nat
  wHot : Nat
  wCold : Nat
  temperature : Nat
  velocity : Nat
  stale : Bool
  tempClamped : Bool
  shotClass : ShotClass
  beyondMap : Bool
  deriving DecidableEq, Repr

/-- The interval statistics (R158). -/
structure IntervalStats where
  count : Nat
  min : Option Nat
  max : Option Nat
  deriving DecidableEq, Repr

/-- R161. -/
inductive KindFilter where
  | measure
  | reference
  | any
  deriving DecidableEq, Repr

/-- R161. -/
inductive Condition where
  | next
  | nextRejected
  deriving DecidableEq, Repr

/-- The capture state with its target or its buffer (R161, R162). -/
inductive Capture where
  | idle
  | armed (channel : Fin 8) (filter : KindFilter) (condition : Condition)
  | captured (record : ShotRecord) (outcome : ShotOutcome) (times : EchoTimes)
  deriving DecidableEq, Repr

/-- The Live Data Unit (chapter 10). -/
structure Ldu where
  liveQueue : List WallSample
  lastWCold : Vector (Option Nat) 8
  interval : IntervalStats
  capture : Capture
  deriving DecidableEq, Repr

/-! ### Events (chapter 11) -/

/-- The eighteen event flags, in the order of R165's table. -/
inductive Flag where
  | reportLost
  | shellMissed
  | referenceOverdue
  | alinkState
  | excursion
  | shellOpened
  | shellComplete
  | tailIrregular
  | referenceLost
  | referenceRejected
  | recordFault
  | liveOverrun
  | captureReady
  | tablesActivated
  | parkState
  | parkIncomplete
  | commandOverrun
  | linkFault
  deriving DecidableEq, Repr

/-- What the EVU holds for one flag (R165); `enabled` is its mark of the enable mask. -/
structure FlagState where
  isSet : Bool
  count : Nat
  latest : Option Nat
  enabled : Bool
  deriving DecidableEq, Repr

/-- A notice (R166). -/
structure Notice where
  flag : Flag
  count : Nat
  sequence : Option Nat
  deriving DecidableEq, Repr

/-- The Event Unit (R165). -/
structure Evu where
  flags : Vector FlagState 18
  urgent : List Notice
  routine : List Notice
  deriving DecidableEq, Repr

/-! ### Links and commands (chapter 12) -/

/-- The A-link interface. -/
structure Ali where
  inLock : Bool
  sending : Option Frame
  outQueue : List AOut
  deriving DecidableEq, Repr

/-- A copy in the forward queue (R178). -/
structure Forwarded where
  outcome : ShotOutcome
  payload : List Byte
  deriving DecidableEq, Repr

/-- The M-link interface. -/
structure Mli where
  inLock : Bool
  sending : Option Frame
  relayQueue : List Message
  forwardQueue : List Forwarded
  deriving DecidableEq, Repr

/-- The statuses of a reply (section 12.5). -/
inductive Status where
  | done
  | busy
  | range
  | state
  | inconsistent
  | notFound
  | unknown
  | format
  deriving DecidableEq, Repr

/-- A queued command (R180). -/
structure Command where
  tag : Byte
  code : Byte
  args : List Byte
  deriving DecidableEq, Repr

/-- A queued reply (section 12.5). -/
structure Reply where
  tag : Byte
  code : Byte
  status : Status
  data : List Byte
  deriving DecidableEq, Repr

/-- The Command Unit. -/
structure Cmu where
  commands : List Command
  replies : List Reply
  deriving DecidableEq, Repr

/-! ### Counters (R182), each 32 bits wide and saturating -/

structure ALinkCounters where
  framesReceived : Nat
  crcErrors : Nat
  lengthErrors : Nat
  unknownKinds : Nat
  unknownChannels : Nat
  framesSent : Nat
  relayedDropped : Nat
  lockChanges : Nat
  deriving DecidableEq, Repr

structure MLinkCounters where
  framesReceived : Nat
  crcErrors : Nat
  lengthErrors : Nat
  unknownKinds : Nat
  malformedCommands : Nat
  commandsOverrun : Nat
  concentratorDropped : Nat
  forwardedDropped : Nat
  framesSent : Nat
  framesAborted : Nat
  deriving DecidableEq, Repr

structure ChannelCounters where
  missedShots : Nat
  badLength : Nat
  modeDrops : Nat
  implausible : Nat
  requestsIssued : Nat
  referencesAccepted : Nat
  referencesRejected : Nat
  referencesLost : Nat
  lateReferences : Nat
  requestsCancelled : Nat
  deriving DecidableEq, Repr

structure TruCounters where
  edgesCounted : Nat
  headEndsTaken : Nat
  tailEndsTaken : Nat
  changesAbandoned : Nat
  deriving DecidableEq, Repr

structure ScsCounters where
  headEndsIgnored : Nat
  strayTails : Nat
  shellsOpened : Nat
  shellsMissed : Nat
  reportsLost : Nat
  reportsReleased : Nat
  unassignedShots : Nat
  deriving DecidableEq, Repr

structure RpbCounters where
  reportsFetched : Nat
  streamsCompleted : Nat
  framesSent : Nat
  deriving DecidableEq, Repr

structure TbsCounters where
  loadsTaken : Nat
  loadsRefused : Nat
  activationsApplied : Nat
  activationsRefused : Nat
  deriving DecidableEq, Repr

structure LduCounters where
  liveQueued : Nat
  liveOverruns : Nat
  capturesTaken : Nat
  deriving DecidableEq, Repr

structure EvuCounters where
  urgentDropped : Nat
  routineDropped : Nat
  deriving DecidableEq, Repr

/-- All the counters, in the groups of R182. -/
structure Counters where
  aLink : ALinkCounters
  mLink : MLinkCounters
  channels : Vector ChannelCounters 8
  tru : TruCounters
  scs : ScsCounters
  rpb : RpbCounters
  tbs : TbsCounters
  ldu : LduCounters
  evu : EvuCounters
  deriving DecidableEq, Repr

def ChannelCounters.zero : ChannelCounters := ⟨0, 0, 0, 0, 0, 0, 0, 0, 0, 0⟩

/-- Every counter 0. -/
def Counters.zero : Counters where
  aLink := ⟨0, 0, 0, 0, 0, 0, 0, 0⟩
  mLink := ⟨0, 0, 0, 0, 0, 0, 0, 0, 0, 0⟩
  channels := Vector.replicate 8 .zero
  tru := ⟨0, 0, 0, 0⟩
  scs := ⟨0, 0, 0, 0, 0, 0, 0⟩
  rpb := ⟨0, 0, 0⟩
  tbs := ⟨0, 0, 0, 0⟩
  ldu := ⟨0, 0, 0⟩
  evu := ⟨0, 0⟩

/-! ### The part -/

/-- The levels standing on the two input lines. -/
structure Pins where
  lengthPulse : Bool
  shellDetect : Bool
  deriving DecidableEq, Repr

/-- The whole machine. `pending` is the queue of commands that wait and `resetHeld` says that RESET
is held asserted (log 5); every other field is a block of 00_scope.md. -/
structure State where
  pending : List Instr
  resetHeld : Bool
  pins : Pins
  ali : Ali
  etu : Vector EtuChannel 8
  rfs : Rfs
  tru : Tru
  scs : Scs
  rpb : Option Stream
  tbs : Tbs
  ldu : Ldu
  evu : Evu
  cmu : Cmu
  mli : Mli
  counters : Counters
  deriving DecidableEq, Repr

/-- Why a command stops the machine. The manual gives the part no fault: every command of the table
takes a next state, so this type has no constructor. -/
inductive Fault where
  deriving DecidableEq, Repr

/-- Why a command has no meaning. -/
inductive Refusal where
  /-- Raised by `exec` in the arm of a row that has no meaning yet; no arm does. Safe: it stops. -/
  | notModelled (mnemonic : String)
  deriving DecidableEq, Repr

/-! ### After a hard reset -/

/-- R7, R9, R21. -/
def EtuChannel.cleared : EtuChannel := ⟨.none, .none, 0, .none⟩

/-- R42. -/
def RfsChannel.off : RfsChannel := ⟨.none, 0, .none, .none⟩

/-- R165. -/
def FlagState.cleared : FlagState := ⟨false, 0, .none, false⟩

/-- R158. -/
def IntervalStats.empty : IntervalStats := ⟨0, .none, .none⟩

/-- The LDU's state after either reset (chapter 10). -/
def Ldu.cleared : Ldu where
  liveQueue := []
  lastWCold := Vector.replicate 8 .none
  interval := .empty
  capture := .idle

/-- The machine right after a hard reset, RESET released, with the given line levels and commands
waiting: R184 for the links and queues, R42, R70, R90, R109, R126, R144, R164 and R165 for the
blocks. The detector reads ACTIVE_HIGH with a debounce of 0 until the first activation (R61), so a
line that stands high starts a departure with a timer of 0 (R70). -/
def State.afterReset (pending : List Instr) (pins : Pins) : State where
  pending := pending
  resetHeld := false
  pins := pins
  ali := ⟨false, .none, []⟩
  etu := Vector.replicate 8 .cleared
  rfs := ⟨Vector.replicate 8 .off, 0, 0⟩
  tru := ⟨0, pins.lengthPulse, .inactive, if pins.shellDetect then .some 0 else .none⟩
  scs := ⟨Vector.replicate 4 .none, 1, .unconfigured, false, .none⟩
  rpb := .none
  tbs := ⟨.empty, .empty, false, 0, false, 0⟩
  ldu := .cleared
  evu := ⟨Vector.replicate 18 .cleared, [], []⟩
  cmu := ⟨[], []⟩
  mli := ⟨false, .none, [], []⟩
  counters := .zero

/-- The machine after reset, both lines low (DESIGN CHOICE, logs 5 and 6) and no command waiting. -/
def State.reset : State := State.afterReset [] ⟨false, false⟩

end Sys2Proof.Machine
end

