-- ==== Sys2Proof/Machine/Ops.lean ====
section
/-! DEFINITION. The named operations over the state that every family shares: saturating counts,
channels and contexts, the current length, queues with a capacity, rounding. -/

namespace Sys2Proof.Machine

/-! ### Arithmetic -/

/-- The largest value of a 32-bit counter. -/
def max32 : Nat := 4294967295

/-- A 32-bit saturating counter plus `k` (00_scope.md, Counters). -/
def add32 (n k : Nat) : Nat := min (n + k) max32

/-- A 32-bit saturating counter incremented. -/
def inc32 (n : Nat) : Nat := add32 n 1

/-- "Round half up" of the non-negative `num / den` (00_scope.md, Arithmetic). -/
def roundHalfUp (num den : Nat) : Nat := (2 * num + den) / (2 * den)

/-- "Round half up" of `num / den` where the numerator is formed as a signed number. -/
def roundHalfUpInt (num : Int) (den : Nat) : Int := (2 * num + den) / (2 * (den : Int))

/-- The smaller of a value that may be absent and `w`. -/
def optMin (o : Option Nat) (w : Nat) : Option Nat :=
  match o with
  | .none => .some w
  | .some m => .some (min m w)

/-- The larger of a value that may be absent and `w`. -/
def optMax (o : Option Nat) (w : Nat) : Option Nat :=
  match o with
  | .none => .some w
  | .some m => .some (max m w)

/-! ### Queues -/

/-- A queue of `places` places is offered an item: it joins the tail, or the queue is full. -/
def offer {α : Type} (places : Nat) (x : α) (q : List α) : Option (List α) :=
  if q.length < places then .some (q ++ [x]) else .none

/-! ### Channels and contexts -/

/-- The channel slots in ascending order. -/
def allChannels : List (Fin 8) := [0, 1, 2, 3, 4, 5, 6, 7]

/-- The contexts in ascending order. -/
def allContexts : List (Fin 4) := [0, 1, 2, 3]

/-- `f` for every channel in ascending order, each on the state the ones before it left. -/
def forChannels (f : Fin 8 → State → State) (s : State) : State :=
  allChannels.foldl (fun s c => f c s) s

/-- Change the counters. -/
def State.tally (f : Counters → Counters) (s : State) : State :=
  { s with counters := f s.counters }

/-- Change one channel's counters. -/
def State.tallyChannel (c : Fin 8) (f : ChannelCounters → ChannelCounters) (s : State) : State :=
  s.tally fun k => { k with channels := k.channels.set c (f k.channels[c]) }

/-- Change one channel's state in the ETU. -/
def State.etuChannel (c : Fin 8) (f : EtuChannel → EtuChannel) (s : State) : State :=
  { s with etu := s.etu.set c (f s.etu[c]) }

/-- Change one channel's state in the RFS. -/
def State.rfsChannel (c : Fin 8) (f : RfsChannel → RfsChannel) (s : State) : State :=
  { s with rfs.channels := s.rfs.channels.set c (f s.rfs.channels[c]) }

/-- Change the shell a context holds; a FREE context stays FREE. -/
def State.shellAt (i : Fin 4) (f : Shell → Shell) (s : State) : State :=
  { s with scs.contexts := s.scs.contexts.set i (s.scs.contexts[i].map f) }

/-- Make a context FREE: its contents are discarded (R71). -/
def State.freeContext (i : Fin 4) (s : State) : State :=
  { s with scs.contexts := s.scs.contexts.set i .none }

/-- Whether a context holds a shell with property `p`. -/
def State.holds (s : State) (p : Shell → Bool) (i : Fin 4) : Bool :=
  s.scs.contexts[i].any p

/-- The sequence number of the shell a context holds, 0 for a FREE one. -/
def State.sequenceAt (s : State) (i : Fin 4) : Nat :=
  (s.scs.contexts[i].map (·.sequence)).getD 0

/-- Of the contexts of `l`, one with the lowest sequence number. -/
def State.lowest (s : State) : List (Fin 4) → Option (Fin 4)
  | [] => .none
  | i :: l =>
    match s.lowest l with
    | .none => .some i
    | .some j => if s.sequenceAt j < s.sequenceAt i then .some j else .some i

/-- The oldest context, the one with the lowest sequence number (R72), whose shell has `p`. -/
def State.oldest (s : State) (p : Shell → Bool) : Option (Fin 4) :=
  s.lowest (allContexts.filter (s.holds p))

/-- OPEN (R71). -/
def Shell.isOpen (sh : Shell) : Bool :=
  match sh.phase with
  | .opened _ => true
  | _ => false

/-- CLOSING (R71). -/
def Shell.isClosing (sh : Shell) : Bool :=
  match sh.phase with
  | .closing .. => true
  | _ => false

/-- COMPLETE (R71). -/
def Shell.isComplete (sh : Shell) : Bool :=
  match sh.phase with
  | .complete _ => true
  | _ => false

/-- OPEN or CLOSING: the shell is being gauged. -/
def Shell.inRing (sh : Shell) : Bool := sh.isOpen || sh.isClosing

/-- The OPEN context; there is at most one (R77). -/
def State.openContext (s : State) : Option (Fin 4) := s.oldest Shell.isOpen

/-- Some context is OPEN or CLOSING. -/
def State.gauging (s : State) : Bool := allContexts.any (s.holds Shell.inRing)

/-- The context, not FREE, that holds a sequence number (R88, R111). -/
def State.contextOf (s : State) (sequence : Nat) : Option (Fin 4) :=
  allContexts.find? (s.holds fun sh => sh.sequence == sequence)

/-- The context is being streamed by the Report Builder (R109). -/
def State.streamed (s : State) (sh : Shell) : Bool :=
  s.rpb.any fun st => st.sequence == sh.sequence

/-! ### The active set -/

/-- The active set's line setup; absent until the first activation. -/
def State.line (s : State) : Option LineSetup := s.tbs.active.line

/-- The active entry of a channel. -/
def State.entry (s : State) (c : Fin 8) : Option ChannelEntry := s.tbs.active.channels[c]

/-- The entry's fields when it is present and enabled (R126, R127). -/
def enabledEntry (o : Option ChannelEntry) : Option ChannelEntry := o.filter (·.enabled)

/-- The channel is enabled in the active set. -/
def State.enabled (s : State) (c : Fin 8) : Bool := (enabledEntry (s.entry c)).isSome

/-- A field of the active line setup, 0 while there is none. -/
def State.lineField (s : State) (f : LineSetup → Nat) : Nat := (s.line.map f).getD 0

/-- Keep-reference of the active line setup (section 2.1). -/
def State.keepReference (s : State) : Bool := s.line.any (·.keepReference)

/-- The current length in whole millimetres (R59). -/
def State.currentLength (s : State) : Nat := s.tru.lengthCounter / 1000

/-- The raw level of the detector through the active polarity, ACTIVE_HIGH while no line setup is
active (R61). -/
def State.rawLevel (s : State) : Level :=
  match (s.line.map (·.polarity)).getD .activeHigh with
  | .activeHigh => if s.pins.shellDetect then .active else .inactive
  | .activeLow => if s.pins.shellDetect then .inactive else .active

/-- The record's slot: a channel above 7 has none. -/
def slotOf (channel : Nat) : Option (Fin 8) :=
  if h : channel < 8 then .some ⟨channel, h⟩ else .none

end Sys2Proof.Machine
end

