-- ==== Sys2Proof/Machine/Flags.lean ====
section
/-! DEFINITION. The Event Unit (chapter 11): event flags, occurrences, notices and ATTN. -/

namespace Sys2Proof.Machine

/-- A flag's number, its place in every set of flags (R165). -/
def Flag.index : Flag → Fin 18
  | .reportLost => 0
  | .shellMissed => 1
  | .referenceOverdue => 2
  | .alinkState => 3
  | .excursion => 4
  | .shellOpened => 5
  | .shellComplete => 6
  | .tailIrregular => 7
  | .referenceLost => 8
  | .referenceRejected => 9
  | .recordFault => 10
  | .liveOverrun => 11
  | .captureReady => 12
  | .tablesActivated => 13
  | .parkState => 14
  | .parkIncomplete => 15
  | .commandOverrun => 16
  | .linkFault => 17

/-- The flags in the order of their numbers (R165). -/
def allFlags : List Flag :=
  [.reportLost, .shellMissed, .referenceOverdue, .alinkState, .excursion, .shellOpened,
   .shellComplete, .tailIrregular, .referenceLost, .referenceRejected, .recordFault, .liveOverrun,
   .captureReady, .tablesActivated, .parkState, .parkIncomplete, .commandOverrun, .linkFault]

/-- The class of a flag: urgent for flags 0 to 4, routine for the rest (R165). -/
def Flag.urgent : Flag → Bool
  | .reportLost | .shellMissed | .referenceOverdue | .alinkState | .excursion => true
  | _ => false

/-- What the EVU holds for a flag. -/
def State.flag (s : State) (f : Flag) : FlagState := s.evu.flags[f.index]

/-- A notice is offered to the queue of its flag's class (R167). -/
def State.offerNotice (n : Notice) (s : State) : State :=
  if n.flag.urgent then
    match offer Config.noticePlaces n s.evu.urgent with
    | .some q => { s with evu.urgent := q }
    | .none => s.tally fun k => { k with evu.urgentDropped := inc32 k.evu.urgentDropped }
  else
    match offer Config.noticePlaces n s.evu.routine with
    | .some q => { s with evu.routine := q }
    | .none => s.tally fun k => { k with evu.routineDropped := inc32 k.evu.routineDropped }

/-- What an occurrence makes of its flag: steps 1 to 3 of R166. -/
def FlagState.occur (sequence : Option Nat) (f : FlagState) : FlagState where
  isSet := true
  count := min (f.count + 1) 255
  latest := sequence.or f.latest
  enabled := f.enabled

/-- One occurrence of a flag's cause, with the context sequence number it carries (R166). -/
def State.raise (f : Flag) (sequence : Option Nat) (s : State) : State :=
  let old := s.flag f
  let new := old.occur sequence
  let s := { s with evu.flags := s.evu.flags.set f.index new }
  if !old.isSet && old.enabled then s.offerNotice ⟨f, new.count, sequence⟩ else s

/-- Some flag is both set and enabled: the ATTN line (R169). -/
def State.attn (s : State) : Bool :=
  allFlags.any fun f => (s.flag f).isSet && (s.flag f).enabled

end Sys2Proof.Machine
end

