-- ==== Sys2Proof/Machine/Operands.lean ====
section
/-! DEFINITION. How the commands' operands and the frames' contents are carried: numbers as bytes, the
frame check of R173, the envelope of R174, the fields of the load commands with their ranges and ties
(R127 to R130), and the shot record's header (chapter 1). -/

namespace Sys2Proof.Machine

/-! ### Numbers as bytes (R174) -/

/-- The lowest `8 * width` bits of a number, most significant byte first. -/
def digits : Nat → Nat → List Byte
  | 0, _ => []
  | w + 1, n => BitVec.ofNat 8 (n / 256 ^ w) :: digits w n

/-- An unsigned number in a field of `w` bytes. A value that does not fit is carried as the free
value of log 10. -/
def be (w n : Nat) : List Byte :=
  if n < 256 ^ w then digits w n else digits w (Config.unstatedUnsigned w n)

/-- A signed number in a field of `w` bytes, in two's complement; as `be` where it does not fit. -/
def beSigned (w : Nat) (i : Int) : List Byte :=
  if -(256 ^ w / 2 : Int) ≤ i ∧ i < (256 ^ w / 2 : Int) then digits w (i % 256 ^ w).toNat
  else digits w (Config.unstatedSigned w i)

/-- A field that may be absent: a presence byte, then the value's bytes or as many zeros. -/
def presence (w : Nat) (value : Option (List Byte)) : List Byte :=
  match value with
  | .none => 0 :: List.replicate w 0
  | .some v => 1 :: v

/-- An unsigned field that may be absent. -/
def beOpt (w : Nat) (o : Option Nat) : List Byte := presence w (o.map (be w))

/-- A yes/no item, 1 byte. -/
def beBool (b : Bool) : List Byte := [if b then 1 else 0]

/-- The number carried by bytes, most significant first. -/
def ofBytes (l : List Byte) : Nat := l.foldl (fun n b => n * 256 + b.toNat) 0

/-- The signed number carried by bytes in two's complement. -/
def ofBytesSigned (l : List Byte) : Int :=
  let n := ofBytes l
  if 2 * n < 256 ^ l.length then n else (n : Int) - 256 ^ l.length

/-! ### The CRC (section 12.1) -/

/-- One bit taken into the register, polynomial x^16 + x^12 + x^5 + 1. -/
def crcBit (r : Crc) (b : Bool) : Crc :=
  if r.msb != b then (r <<< 1) ^^^ 0x1021#16 else r <<< 1

/-- One byte, most significant bit first. -/
def crcByte (r : Crc) (b : Byte) : Crc :=
  [7, 6, 5, 4, 3, 2, 1, 0].foldl (fun r i => crcBit r (b.getLsbD i)) r

/-- The CRC of a sequence of bytes: the register starts at all ones and is not inverted. -/
def crc16 (l : List Byte) : Crc := l.foldl crcByte 0xFFFF#16

/-! ### Frames -/

/-- The bytes of a frame before its CRC. -/
def Frame.body (f : Frame) : List Byte :=
  f.kind :: f.flags :: (be 2 f.payload.length ++ f.payload)

/-- The bytes of a frame between the link's start and end symbols (R174). -/
def Frame.bytes (f : Frame) : List Byte := f.body ++ digits 2 (crc16 f.body).toNat

/-- The two inbound kinds of a link (section 12.1). -/
def inboundKinds : Link → List Byte
  | .aLink => [0x11, 0x12]
  | .mLink => [0x31, 0x32]

/-- The step of R173 that a frame fails. -/
inductive FrameStep where
  | crc
  | length
  | kind
  deriving DecidableEq, Repr

/-- The result of R173's three steps. -/
inductive FrameCheck where
  | passed (frame : Frame)
  | failed (step : FrameStep)
  deriving DecidableEq, Repr

/-- Steps 2 and 3 of R173, on the bytes before the CRC. Fewer than four bytes hold no length field
and fail step 2 (DESIGN CHOICE, log 8). -/
def checkBody (link : Link) : List Byte → FrameCheck
  | kind :: flags :: high :: low :: payload =>
    let length := ofBytes [high, low]
    if Config.largestPayload < length ∨ length ≠ payload.length ∨ (kind = 0x11 ∧ length < 9) then
      .failed .length
    else if kind ∈ inboundKinds link then .passed ⟨kind, flags, payload⟩
    else .failed .kind
  | _ => .failed .length

/-- R173: the three steps in order, on the bytes received between the start and end symbols. The
last two bytes are the CRC the frame carries; a frame without two bytes fails step 1 (log 8). -/
def checkFrame (link : Link) (bytes : List Byte) : FrameCheck :=
  let n := bytes.length - 2
  if bytes.drop n = digits 2 (crc16 (bytes.take n)).toNat then checkBody link (bytes.take n)
  else .failed .crc

/-! ### Fields of the load commands (chapter 8) -/

/-- A field of a load command: its width in bytes, whether it is signed, and its range. -/
structure FieldSpec where
  width : Nat
  signed : Bool
  low : Int
  high : Int
  deriving DecidableEq, Repr

/-- An unsigned field. -/
def field (width : Nat) (low high : Int) : FieldSpec := ⟨width, false, low, high⟩

/-- The bytes of the fields together. -/
def fieldsLength (specs : List FieldSpec) : Nat := (specs.map (·.width)).sum

/-- The values of the fields, read in order. -/
def readFields : List FieldSpec → List Byte → List Int
  | [], _ => []
  | f :: fs, l =>
    (if f.signed then ofBytesSigned (l.take f.width) else (ofBytes (l.take f.width) : Int)) ::
      readFields fs (l.drop f.width)

/-- The fields written in order and width (R133). -/
def writeFields : List FieldSpec → List Int → List Byte
  | f :: fs, v :: vs =>
    (if f.signed then beSigned f.width v else be f.width v.toNat) ++ writeFields fs vs
  | _, _ => []

/-- Field number `ordinal`, counted from 1. -/
def fieldOf (values : List Int) (ordinal : Nat) : Int := values.getD (ordinal - 1) 0

/-- Field number `ordinal` as a count. -/
def natField (values : List Int) (ordinal : Nat) : Nat := (fieldOf values ordinal).toNat

/-- The ordinal of the first field, from `ordinal` on, that lies outside its range or fails its tie
(R131). -/
def firstFailure (tie : Nat → Bool) : Nat → List FieldSpec → List Int → Option Nat
  | ordinal, f :: fs, v :: vs =>
    if f.low ≤ v ∧ v ≤ f.high ∧ tie ordinal then firstFailure tie (ordinal + 1) fs vs
    else .some ordinal
  | _, _, _ => .none

/-- The fields of a channel entry, R127. -/
def channelSpecs : List FieldSpec :=
  [field 1 0 7, field 1 0 1, field 2 0 4095, field 2 1 4096, field 2 16 2047, field 2 1 4095,
   field 2 1 4095, field 2 16 2047, field 1 1 64, field 1 64 224, field 2 0 4095, field 2 1 4096,
   field 2 1 4095, field 2 1 4095, field 2 16 2047, field 4 64 262080, field 2 1 20000,
   field 4 0 600000, field 1 0 3, ⟨2, true, -5000, 5000⟩, field 2 0 3599, field 1 0 255,
   field 1 0 1, field 1 0 2]

/-- The ties of a channel entry, R127. -/
def channelTie (v : List Int) (ordinal : Nat) : Bool :=
  match ordinal with
  | 7 => fieldOf v 6 ≤ fieldOf v 7
  | 9 => fieldOf v 9 ≤ fieldOf v 6
  | 13 => fieldOf v 9 ≤ fieldOf v 13
  | 14 => fieldOf v 13 ≤ fieldOf v 14
  | _ => true

/-- The fields of a product bank, R129. -/
def bankSpecs : List FieldSpec :=
  [field 1 0 3, field 2 0 65535, field 4 1 150000, field 4 0 150000, field 4 0 150000,
   field 4 0 150000, field 4 1 150000, field 2 0 300, field 2 1 10000, field 1 1 16,
   field 2 1 65535, field 2 0 500, field 1 1 255, field 1 1 16]

/-- The tie of a product bank, R129. -/
def bankTie (v : List Int) (ordinal : Nat) : Bool :=
  match ordinal with
  | 7 => fieldOf v 6 ≤ fieldOf v 7
  | _ => true

/-- The fields of the line setup, R130. -/
def lineSpecs : List FieldSpec :=
  [field 1 0 2, field 2 50 5000, field 1 0 1, field 1 0 255, field 4 0 100000, field 2 0 10000,
   field 2 100 60000, field 2 1 600, field 2 1 1000, field 1 0 1, field 2 100 60000]

/-- The fields of a velocity table of `n` points, R128. -/
def velocitySpecs (n : Nat) : List FieldSpec :=
  field 1 0 3 :: field 1 2 16 ::
    (List.replicate n [field 2 0 20000, field 2 3000 7000]).flatten

/-- The ties of a velocity table: each temperature after the first, ordinal 2i + 3 with i from 1, is
greater than the one before it (R128). -/
def velocityTie (v : List Int) (ordinal : Nat) : Bool :=
  if 5 ≤ ordinal ∧ ordinal % 2 = 1 then decide (fieldOf v (ordinal - 2) < fieldOf v ordinal)
  else true

/-- A forward mode's code, R127 field 24. -/
def ForwardMode.code : ForwardMode → Nat
  | .none => 0
  | .rejected => 1
  | .all => 2

def ForwardMode.ofCode (n : Nat) : ForwardMode :=
  if n = 0 then .none else if n = 1 then .rejected else .all

/-- A pulse edge's code, R130 field 1. -/
def PulseEdge.code : PulseEdge → Nat
  | .rising => 0
  | .falling => 1
  | .both => 2

def PulseEdge.ofCode (n : Nat) : PulseEdge :=
  if n = 0 then .rising else if n = 1 then .falling else .both

/-- A polarity's code, R130 field 3. -/
def Polarity.code : Polarity → Nat
  | .activeHigh => 0
  | .activeLow => 1

def Polarity.ofCode (n : Nat) : Polarity := if n = 0 then .activeHigh else .activeLow

/-- The entry a LOAD CHANNEL carries; a reference interval below 100 is written as 100 (R131). -/
def channelOfFields (v : List Int) : ChannelEntry where
  enabled := natField v 2 == 1
  g1Start := natField v 3
  g1Length := natField v 4
  b1Threshold := natField v 5
  b2SpacingMin := natField v 6
  b2SpacingMax := natField v 7
  b2Threshold := natField v 8
  peakWindow := natField v 9
  fraction := natField v 10
  r1Start := natField v 11
  r1Length := natField v 12
  rSpacingMin := natField v 13
  rSpacingMax := natField v 14
  rThreshold := natField v 15
  rnom := natField v 16
  refTolerance := natField v 17
  refInterval := max 100 (natField v 18)
  velocityTable := natField v 19
  trim := fieldOf v 20
  headAngle := natField v 21
  holdLimit := natField v 22
  live := natField v 23 == 1
  forward := .ofCode (natField v 24)

/-- The fields of a channel entry in the order of R127. -/
def ChannelEntry.fields (slot : Nat) (e : ChannelEntry) : List Int :=
  [slot, e.enabled.toNat, e.g1Start, e.g1Length, e.b1Threshold, e.b2SpacingMin, e.b2SpacingMax,
   e.b2Threshold, e.peakWindow, e.fraction, e.r1Start, e.r1Length, e.rSpacingMin, e.rSpacingMax,
   e.rThreshold, e.rnom, e.refTolerance, e.refInterval, e.velocityTable, e.trim, e.headAngle,
   e.holdLimit, e.live.toNat, e.forward.code]

/-- The bank a LOAD BANK carries. -/
def bankOfFields (v : List Int) : ProductBank where
  productCode := natField v 2
  nominal := natField v 3
  lowerTolerance := natField v 4
  upperTolerance := natField v 5
  plausibleMin := natField v 6
  plausibleMax := natField v 7
  contraction := natField v 8
  zoneLength := natField v 9
  sectors := natField v 10
  helixPitch := natField v 11
  mergeGap := natField v 12
  minExcursionShots := natField v 13
  minSectors := natField v 14

/-- The fields of a product bank in the order of R129. -/
def ProductBank.fields (identifier : Nat) (b : ProductBank) : List Int :=
  [identifier, b.productCode, b.nominal, b.lowerTolerance, b.upperTolerance, b.plausibleMin,
   b.plausibleMax, b.contraction, b.zoneLength, b.sectors, b.helixPitch, b.mergeGap,
   b.minExcursionShots, b.minSectors]

/-- The setup a LOAD LINE carries. -/
def lineOfFields (v : List Int) : LineSetup where
  pulseEdge := .ofCode (natField v 1)
  umPerPulse := natField v 2
  polarity := .ofCode (natField v 3)
  debounce := natField v 4
  ringOffset := natField v 5
  tailMargin := natField v 6
  tailTimeout := natField v 7
  dwellLimit := natField v 8
  refTimeout := natField v 9
  keepReference := natField v 10 == 1
  parkDrainLimit := natField v 11

/-- The fields of the line setup in the order of R130. -/
def LineSetup.fields (l : LineSetup) : List Int :=
  [l.pulseEdge.code, l.umPerPulse, l.polarity.code, l.debounce, l.ringOffset, l.tailMargin,
   l.tailTimeout, l.dwellLimit, l.refTimeout, l.keepReference.toNat, l.parkDrainLimit]

/-- The points carried after the identifier and the count (R128). -/
def pointsOfFields : List Int → List VelocityPoint
  | t :: v :: rest => ⟨t.toNat, v.toNat⟩ :: pointsOfFields rest
  | _ => []

/-- The table a LOAD VELOCITY carries. -/
def velocityOfFields (v : List Int) : VelocityTable := ⟨pointsOfFields (v.drop 2)⟩

/-- The fields of a velocity table in the order of R128. -/
def VelocityTable.fields (identifier : Nat) (t : VelocityTable) : List Int :=
  identifier :: t.points.length ::
    (t.points.map fun p => [(p.temperature : Int), (p.velocity : Int)]).flatten

/-! ### Shot records (chapter 1, section 12.7) -/

/-- R2: an amplitude outside −2048 to 2047 is taken as the nearer end. -/
def clampAmplitude (a : Int) : Int := max (-2048) (min 2047 a)

/-- The samples that follow the header, as taken under R2; a last odd byte is no sample. -/
def readSamples : List Byte → List Int
  | high :: low :: rest => clampAmplitude (ofBytesSigned [high, low]) :: readSamples rest
  | _ => []

/-- The fields of a SHOT RECORD payload (section 12.7). -/
def readShotRecord (payload : List Byte) : ShotRecord where
  channel := ofBytes (payload.take 1)
  kind := ofBytes ((payload.drop 1).take 1)
  tag := ofBytes ((payload.drop 2).take 1)
  sequence := ofBytes ((payload.drop 3).take 2)
  temperature := ofBytes ((payload.drop 5).take 2)
  sampleCount := ofBytes ((payload.drop 7).take 2)
  samples := readSamples (payload.drop 9)

/-- The header of a record as it is carried. -/
def ShotRecord.header (r : ShotRecord) : List Byte :=
  be 1 r.channel ++ be 1 r.kind ++ be 1 r.tag ++ be 2 r.sequence ++ be 2 r.temperature ++
    be 2 r.sampleCount

/-- Samples as they are carried, 2 bytes each, signed. -/
def sampleBytes (samples : List Int) : List Byte := (samples.map (beSigned 2)).flatten

/-- The record's payload with its samples as taken under R2 (R178). -/
def ShotRecord.payload (r : ShotRecord) : List Byte := r.header ++ sampleBytes r.samples

/-! ### Codes (R174) -/

/-- The outcome codes of R174. -/
def ShotOutcome.code : ShotOutcome → Nat
  | .accepted => 0
  | .referenceAccepted => 1
  | .unknownChannel => 2
  | .badLength => 3
  | .unconfigured => 4
  | .parked => 5
  | .noShell => 6
  | .beforeHead => 7
  | .noB1 => 8
  | .noB2 => 9
  | .edge => 10
  | .noTemperature => 11
  | .implausible => 12
  | .lateReference => 13
  | .outOfTolerance => 14

/-- The last column of R9's table. -/
def ShotOutcome.rejected : ShotOutcome → Bool
  | .accepted | .referenceAccepted => false
  | _ => true

/-- The mode codes of chapter 9. -/
def Mode.code : Mode → Nat
  | .unconfigured => 0
  | .standby => 1
  | .measuring => 2
  | .parking => 3
  | .parked => 4

/-- The status codes of section 12.5. -/
def Status.code : Status → Nat
  | .done => 0
  | .busy => 1
  | .range => 2
  | .state => 3
  | .inconsistent => 4
  | .notFound => 5
  | .unknown => 6
  | .format => 7

/-- R110. -/
def Detail.code : Detail → Nat
  | .summary => 0
  | .zones => 1
  | .full => 2

/-- A set of flags, 3 bytes, flag n at bit n (R165, R174). -/
def flagSet (p : Flag → Bool) : List Byte :=
  digits 3 (allFlags.foldl (fun n f => n + if p f then 2 ^ f.index.val else 0) 0)

/-- Whether a set of flags carried as a number names a flag. -/
def inFlagSet (n : Nat) (f : Flag) : Bool := n.testBit f.index.val

end Sys2Proof.Machine
end

