-- ==== Sys2Proof/Machine/Wall.lean ====
section
/-! DEFINITION. The Wall Computation Unit (chapter 3): from a transit and a temperature to a
classified cold-equivalent wall. It holds no state. -/

namespace Sys2Proof.Machine

/-- The corrected transit, R45. -/
def correctedTransit (transit rnom rmeas : Nat) : Nat := roundHalfUp (transit * rnom) rmeas

/-- Linear interpolation between two points, rounded once (R49). -/
def interpolate (p q : VelocityPoint) (t : Nat) : Nat :=
  (roundHalfUpInt
    ((p.velocity : Int) * ((q.temperature : Int) - p.temperature) +
      ((q.velocity : Int) - p.velocity) * ((t : Int) - p.temperature))
    (q.temperature - p.temperature)).toNat

/-- The velocity on the points from `p` on, for a temperature above that of `p`: the segment that
holds it, or the last velocity (R48, R49). -/
def velocityFrom (p : VelocityPoint) : List VelocityPoint → Nat → Nat
  | [], _ => p.velocity
  | q :: rest, t => if t < q.temperature then interpolate p q t else velocityFrom q rest t

/-- The velocity of a table at a temperature (R47 to R49). -/
def VelocityTable.velocityAt (table : VelocityTable) (t : Nat) : Nat :=
  match table.points with
  | [] => 0
  | p :: rest => if t ≤ p.temperature then p.velocity else velocityFrom p rest t

/-- The TEMP_CLAMPED mark: the temperature lies strictly outside the table's range (R48). -/
def VelocityTable.clampedAt (table : VelocityTable) (t : Nat) : Bool :=
  (table.points.head?.any fun p => t < p.temperature) ||
    (table.points.getLast?.any fun p => p.temperature < t)

/-- The hot wall in µm, R51. -/
def hotWall (velocity transit : Nat) (trim : Int) : Nat :=
  (roundHalfUpInt ((velocity : Int) * transit * 5 * (1000000 + trim)) (64000 * 1000000)).toNat

/-- The cold-equivalent wall in µm, R52. -/
def coldWall (wHot contraction temperature : Nat) : Nat :=
  (roundHalfUpInt ((wHot : Int) * (100000000 - (contraction : Int) * ((temperature : Int) - 200)))
    100000000).toNat

/-- Plausibility, R53. -/
def ProductBank.plausible (b : ProductBank) (wCold : Nat) : Bool :=
  b.plausibleMin ≤ wCold && wCold ≤ b.plausibleMax

/-- The lower limit of the tolerance band, which may be negative (R54). -/
def ProductBank.lowerLimit (b : ProductBank) : Int := (b.nominal : Int) - b.lowerTolerance

/-- The upper limit of the tolerance band (R54). -/
def ProductBank.upperLimit (b : ProductBank) : Int := (b.nominal : Int) + b.upperTolerance

/-- Classification, R54. -/
def ProductBank.classify (b : ProductBank) (wCold : Nat) : ShotClass :=
  if (wCold : Int) < b.lowerLimit then .thin
  else if b.upperLimit < (wCold : Int) then .thick
  else .within

/-- What the WCU hands on with an ACCEPTED record (R55), or a record that is IMPLAUSIBLE. -/
structure WallResult where
  wHot : Nat
  wCold : Nat
  velocity : Nat
  tempClamped : Bool
  deriving DecidableEq, Repr

/-- Steps 1 to 4 of the chapter: the walls of a transit at a temperature. -/
def computeWall (e : ChannelEntry) (table : VelocityTable) (rmeas contraction transit t : Nat) :
    WallResult :=
  let velocity := table.velocityAt t
  let wHot := hotWall velocity (correctedTransit transit e.rnom rmeas) e.trim
  ⟨wHot, coldWall wHot contraction t, velocity, table.clampedAt t⟩

end Sys2Proof.Machine
end

