-- ==== Sys2Proof/Machine/WallMap.lean ====
section
/-! DEFINITION. The wall map, the run slots and the excursion list of one shell (chapter 6), as
functions of the shell and the shot. -/

namespace Sys2Proof.Machine

/-- An accepted shot as the SCS takes it: its place (R92), its wall, its class and its STALE mark. -/
structure Shot where
  channel : Fin 8
  position : Nat
  zone : Nat
  sector : Nat
  wCold : Nat
  shotClass : ShotClass
  stale : Bool
  deriving DecidableEq, Repr

/-! ### Place on the map (R92, R93) -/

/-- The zone of a position. -/
def ProductBank.zoneOf (b : ProductBank) (position : Nat) : Nat := position / b.zoneLength

/-- The angle on the shell under a head, in tenths of a degree. -/
def ProductBank.angleOf (b : ProductBank) (headAngle position : Nat) : Nat :=
  (headAngle + position * 3600 / b.helixPitch) % 3600

/-- The sector of a shot. -/
def ProductBank.sectorOf (b : ProductBank) (headAngle position : Nat) : Nat :=
  b.angleOf headAngle position * b.sectors / 3600

/-- BEYOND_MAP. -/
def liesBeyond (zone : Nat) : Bool := Config.zones ≤ zone

/-! ### Cells (R91, R94 to R97) -/

/-- The empty wall map of a bank, R91. -/
def ProductBank.emptyMap (b : ProductBank) : List (List Cell) :=
  List.replicate Config.zones (List.replicate b.sectors .empty)

/-- The cell of a zone and sector; empty outside the map. -/
def cellAt (map : List (List Cell)) (zone sector : Nat) : Cell :=
  ((map[zone]?.getD [])[sector]?).getD .empty

/-- The largest count of a cell. -/
def cellLimit : Nat := 65535

/-- A shot added to a cell: R95 below the limit, R96 at it. -/
def Cell.add (wCold : Nat) (cell : Cell) : Cell where
  count := if cell.count < cellLimit then cell.count + 1 else cell.count
  min := optMin cell.min wCold
  max := optMax cell.max wCold
  sum := if cell.count < cellLimit then cell.sum + wCold else cell.sum

/-- The mean of a cell that holds a shot, R97. -/
def Cell.mean (cell : Cell) : Option Nat :=
  if cell.count = 0 then .none else .some (roundHalfUp cell.sum cell.count)

/-- The cell, spill or beyond-map step of an accepted shot (R93, R95, R96). -/
def Shell.addToMap (shot : Shot) (sh : Shell) : Shell :=
  if liesBeyond shot.zone then { sh with beyondMap := inc32 sh.beyondMap }
  else
    { sh with
      map := sh.map.modify shot.zone fun row => row.modify shot.sector (Cell.add shot.wCold)
      spill := if (cellAt sh.map shot.zone shot.sector).count < cellLimit then sh.spill
        else inc32 sh.spill }

/-- The accepted total, the shell-wide statistics and the stale count (R98, R99). -/
def Shell.addToTotals (shot : Shot) (sh : Shell) : Shell :=
  { sh with
    accepted := inc32 sh.accepted
    wallMin := if sh.accepted = 0 then .some shot.wCold else optMin sh.wallMin shot.wCold
    wallMax := if sh.accepted = 0 then .some shot.wCold else optMax sh.wallMax shot.wCold
    wallSum := sh.wallSum + shot.wCold
    stale := if shot.stale then inc32 sh.stale else sh.stale }

/-! ### Runs and excursions (R100 to R106) -/

/-- The kind of run a class belongs to; WITHIN belongs to none. -/
def ShotClass.runKind : ShotClass → Option RunKind
  | .thin => .some .thin
  | .thick => .some .thick
  | .within => .none

/-- The more extreme of two walls: the smaller for THIN, the larger for THICK (R100). -/
def RunKind.worse : RunKind → Nat → Nat → Nat
  | .thin, a, b => min a b
  | .thick, a, b => max a b

/-- The list entry a run gives (R103). -/
def Run.entry (channel : Fin 8) (r : Run) : Excursion :=
  ⟨channel, r.kind, r.startPos, r.endPos, r.extreme, r.firstSector, r.shots⟩

/-- Insertion after every entry whose start position is less than or equal to the new one's (R103). -/
def insertExcursion (e : Excursion) : List Excursion → List Excursion
  | [] => [e]
  | x :: rest => if x.startPos ≤ e.startPos then x :: insertExcursion e rest else e :: x :: rest

/-- Change the last element with `p`. -/
def updateLast {α : Type} (p : α → Bool) (f : α → α) : List α → List α
  | [] => []
  | x :: rest => if p x && !rest.any p then f x :: rest else x :: updateLast p f rest

/-- The entry of a listed run takes the run's new values (R101). The entry is the last of the run's
channel, kind and start position: a later run of that channel commits after it (DEDUCED, log 13). -/
def updateEntry (channel : Fin 8) (r : Run) (l : List Excursion) : List Excursion :=
  updateLast (fun e => e.channel == channel && e.kind == r.kind && e.startPos == r.startPos)
    (fun _ => r.entry channel) l

/-- Put a run into a channel's slot, or empty it. -/
def Shell.setRun (channel : Fin 8) (r : Option Run) (sh : Shell) : Shell :=
  { sh with runs := sh.runs.set channel r }

/-- A run commits: it is inserted, or it overflows the list (R103, R104). -/
def Shell.commitRun (channel : Fin 8) (r : Run) (sh : Shell) : Shell :=
  if sh.excursions.length < Config.excursionPlaces then
    { sh with excursions := insertExcursion (r.entry channel) sh.excursions }.setRun channel
      (.some { r with commit := .listed })
  else
    { sh with
      overflow := inc32 sh.overflow
      irregular := { sh.irregular with excursionsOverflowed := true } }.setRun channel
      (.some { r with commit := .unlisted })

/-- A run with a shot taken in stands in its slot, committing when it has reached the minimum
excursion shots (R101, R102). -/
def Shell.standRun (channel : Fin 8) (r : Run) (sh : Shell) : Shell :=
  match r.commit with
  | .listed => { sh with excursions := updateEntry channel r sh.excursions }.setRun channel (.some r)
  | .unlisted => sh.setRun channel (.some r)
  | .no =>
    if sh.bank.minExcursionShots ≤ r.shots then sh.commitRun channel r
    else sh.setRun channel (.some r)

/-- The shot extends the run (R101). -/
def Shell.extends (sh : Shell) (shot : Shot) (r : Run) : Bool :=
  decide (shot.shotClass.runKind = .some r.kind) &&
    decide ((shot.position : Int) - r.endPos ≤ sh.bank.mergeGap)

/-- The run with the shot taken in (R101). -/
def Run.extend (shot : Shot) (r : Run) : Run :=
  { r with
    endPos := shot.position
    shots := inc32 r.shots
    extreme := r.kind.worse r.extreme shot.wCold }

/-- Step 2 of R102 on an empty slot: a THIN or THICK shot starts a run. -/
def Shell.startRun (shot : Shot) (sh : Shell) : Shell :=
  match shot.shotClass.runKind with
  | .none => sh
  | .some kind =>
    sh.standRun shot.channel
      ⟨kind, shot.position, shot.position, shot.wCold, shot.sector, 1, .no⟩

/-- The channel's run slot takes an accepted shot: R101, or the close and start of R102. -/
def Shell.trackRun (shot : Shot) (sh : Shell) : Shell :=
  match sh.runs[shot.channel] with
  | .some r =>
    if sh.extends shot r then sh.standRun shot.channel (r.extend shot)
    else (sh.setRun shot.channel .none).startRun shot
  | .none => sh.startRun shot

/-- An accepted shot worked in the order of R107. -/
def Shell.accept (shot : Shot) (sh : Shell) : Shell :=
  ((sh.addToMap shot).addToTotals shot).trackRun shot

/-- Every run slot closes at completion (R106). -/
def Shell.closeRuns (sh : Shell) : Shell := { sh with runs := Vector.replicate 8 .none }

end Sys2Proof.Machine
end

