-- ==== Sys2Proof/Machine/Reports.lean ====
section
/-! DEFINITION. The Report Builder (chapter 7): the figures of a zone and of a shell, and the frames
of a report stream. -/

namespace Sys2Proof.Machine

/-! ### Figures (R113, R116 to R119) -/

/-- A zone's row of cells. -/
def Shell.zoneRow (sh : Shell) (zone : Nat) : List Cell := sh.map[zone]?.getD []

/-- The cell holds a shot (R94). -/
def Cell.holdsShot (c : Cell) : Bool := c.count != 0

/-- One more than the index of the last row holding a shot. -/
def reportedRows : List (List Cell) → Nat
  | [] => 0
  | row :: rest =>
    let n := reportedRows rest
    if n = 0 then if row.any Cell.holdsShot then 1 else 0 else n + 1

/-- Z, the zones reported (R113). -/
def Shell.zonesReported (sh : Shell) : Nat := reportedRows sh.map

/-- The covered sectors of a zone (R116). -/
def coveredSectors (row : List Cell) : Nat := row.countP Cell.holdsShot

/-- The shots of a zone (R116). -/
def zoneShots (row : List Cell) : Nat := (row.map (·.count)).sum

/-- The sector means of a zone (R116). -/
def sectorMeans (row : List Cell) : List Nat := row.filterMap Cell.mean

/-- The smallest of a list of values. -/
def least : List Nat → Option Nat
  | [] => .none
  | n :: rest => optMin (least rest) n

/-- The largest of a list of values. -/
def greatest : List Nat → Option Nat
  | [] => .none
  | n :: rest => optMax (greatest rest) n

/-- The zone minimum, over the cells holding a shot (R116). -/
def zoneMin (row : List Cell) : Option Nat :=
  least ((row.filter Cell.holdsShot).filterMap (·.min))

/-- The zone maximum, over the cells holding a shot (R116). -/
def zoneMax (row : List Cell) : Option Nat :=
  greatest ((row.filter Cell.holdsShot).filterMap (·.max))

/-- The zone mean: the rounded mean of the sector means (R116). -/
def zoneMean (row : List Cell) : Option Nat :=
  if coveredSectors row = 0 then .none
  else .some (roundHalfUp (sectorMeans row).sum (coveredSectors row))

/-- The eccentricity of a zone in hundredths of a percent (R117). -/
def eccentricity (minSectors : Nat) (row : List Cell) : Option Nat :=
  if 1 ≤ coveredSectors row ∧ minSectors ≤ coveredSectors row then
    match greatest (sectorMeans row), least (sectorMeans row) with
    | .some high, .some low =>
      .some (if high + low = 0 then 0 else roundHalfUp (10000 * (high - low)) (high + low))
    | _, _ => .none
  else .none

/-- BELOW: the zone minimum is less than the lower limit (R118). -/
def verdictBelow (b : ProductBank) (row : List Cell) : Bool :=
  (zoneMin row).any fun m => decide ((m : Int) < b.lowerLimit)

/-- ABOVE: the zone maximum is greater than the upper limit (R118). -/
def verdictAbove (b : ProductBank) (row : List Cell) : Bool :=
  (zoneMax row).any fun m => decide (b.upperLimit < (m : Int))

/-- The verdict byte: bit 0 BELOW, bit 1 ABOVE (R174). -/
def verdictByte (b : ProductBank) (row : List Cell) : Nat :=
  (verdictBelow b row).toNat + 2 * (verdictAbove b row).toNat

/-- The larger of two eccentricities, the lower-numbered zone where they are equal. -/
def worseZone (best : Option (Nat × Nat)) (zone : Nat) (e : Option Nat) : Option (Nat × Nat) :=
  match e, best with
  | .none, _ => best
  | .some v, .none => .some (v, zone)
  | .some v, .some (w, z) => if w < v then .some (v, zone) else .some (w, z)

/-- The maximum eccentricity and its zone (R119). -/
def Shell.maxEccentricity (sh : Shell) : Option (Nat × Nat) :=
  (List.range sh.zonesReported).foldl
    (fun best z => worseZone best z (eccentricity sh.bank.minSectors (sh.zoneRow z))) .none

/-- The shell-wide mean (R115). -/
def Shell.wallMean (sh : Shell) : Option Nat :=
  if sh.accepted = 0 then .none else .some (roundHalfUp sh.wallSum sh.accepted)

/-- The tail mark of a context that is not OPEN. -/
def Shell.tailMark (sh : Shell) : Nat :=
  match sh.phase with
  | .opened _ => 0
  | .closing t _ _ => t
  | .complete t => t

/-! ### Frames of a stream (R113 to R122, section 12.7) -/

/-- The zones that have a ZONE frame at a detail level. -/
def Detail.zoneFrames (d : Detail) (z : Nat) : Nat :=
  match d with
  | .summary => 0
  | .zones | .full => z

/-- The zones that have a CELL ROW frame at a detail level. -/
def Detail.rowFrames (d : Detail) (z : Nat) : Nat :=
  match d with
  | .summary | .zones => 0
  | .full => z

/-- The frame count of a stream (R113). -/
def Shell.frameCount (sh : Shell) (d : Detail) : Nat :=
  1 + d.zoneFrames sh.zonesReported + sh.excursions.length + d.rowFrames sh.zonesReported + 1

/-- The irregularity byte of the report head (section 12.7). -/
def Irregularity.code (r : Irregularity) : Nat :=
  r.tailForced.toNat + 2 * r.tailCut.toNat + 4 * r.dwell.toNat + 8 * r.tailStalled.toNat +
    16 * r.excursionsOverflowed.toNat

/-- The reject counts in their order (R115). -/
def Rejects.bytes (r : Rejects) : List Byte :=
  be 4 r.beforeHead ++ be 4 r.noB1 ++ be 4 r.noB2 ++ be 4 r.edge ++ be 4 r.noTemperature ++
    be 4 r.implausible

/-- The REPORT HEAD after the three common items (R115, section 12.7). -/
def headBytes (sh : Shell) (d : Detail) : List Byte :=
  be 1 d.code ++ be 4 sh.generation ++ be 2 sh.bank.productCode ++ be 6 sh.headMark ++
    be 6 sh.tailMark ++ be 4 (sh.tailMark - sh.headMark) ++ be 1 sh.irregular.code ++
    be 4 sh.accepted ++ be 4 sh.stale ++ be 4 sh.beyondMap ++ be 4 sh.spill ++ be 4 sh.missed ++
    sh.rejects.bytes ++ beOpt 4 sh.wallMin ++ beOpt 4 sh.wallMax ++ beOpt 4 sh.wallMean ++
    be 1 sh.zonesReported ++
    presence 3 (sh.maxEccentricity.map fun (e, z) => be 2 e ++ be 1 z) ++
    be 1 sh.excursions.length ++ be 4 sh.overflow

/-- A ZONE frame's items (R116). -/
def zoneBytes (sh : Shell) (zone : Nat) : List Byte :=
  let row := sh.zoneRow zone
  be 1 zone ++ be 1 (coveredSectors row) ++ be 4 (zoneShots row) ++ beOpt 4 (zoneMin row) ++
    beOpt 4 (zoneMax row) ++ beOpt 4 (zoneMean row) ++
    beOpt 2 (eccentricity sh.bank.minSectors row) ++ be 1 (verdictByte sh.bank row)

/-- The code of a run's kind (R174). -/
def RunKind.code : RunKind → Nat
  | .thin => 0
  | .thick => 1

/-- An EXCURSION frame's items; `place` counts from 1 (R120). -/
def excursionBytes (place : Nat) (e : Excursion) : List Byte :=
  be 1 place ++ be 1 e.channel.val ++ be 1 e.kind.code ++ beSigned 4 e.startPos ++
    beSigned 4 e.endPos ++ be 4 e.extreme ++ be 1 e.firstSector ++ be 4 e.shots

/-- A CELL ROW frame's items (R121). -/
def rowBytes (sh : Shell) (zone : Nat) : List Byte :=
  be 1 zone ++ ((sh.zoneRow zone).map fun c =>
    be 2 c.count ++ beOpt 4 c.min ++ beOpt 4 c.max ++ beOpt 4 c.mean).flatten

/-- The type and items of frame `index` of a stream, after the common items; the last one is the
REPORT END (R113, R122). -/
def reportItems (sh : Shell) (d : Detail) (frameCount index : Nat) : Nat × List Byte :=
  let zones := d.zoneFrames sh.zonesReported
  let excursions := sh.excursions.length
  if index + 1 = frameCount then (4, be 2 frameCount)
  else if index = 0 then (0, headBytes sh d)
  else if index ≤ zones then (1, zoneBytes sh (index - 1))
  else
    match sh.excursions[index - 1 - zones]? with
    | .some e => (2, excursionBytes (index - zones) e)
    | .none => (3, rowBytes sh (index - 1 - zones - excursions))

/-- A REPORT payload: the three common items and those of the frame's type (R114, section 12.7). -/
def reportPayload (sh : Shell) (st : Stream) : List Byte :=
  let (kind, items) := reportItems sh st.detail st.frameCount st.next
  be 4 st.sequence ++ be 2 st.next ++ be 1 kind ++ items

end Sys2Proof.Machine
end

