-- ==== Sys2Proof/Machine/References.lean ====
section
/-! DEFINITION. The Reference Scheduler (chapter 2): staleness, backlogs, the examination of R30,
cancellation, the drained condition, and the departure from PARKED. -/

namespace Sys2Proof.Machine

/-- The largest backlog (R24). -/
def backlogMax : Nat := 15

/-- The backlog from which a channel is OVERDUE and stale (R23, R24). -/
def overdueFrom : Nat := 12

/-- A channel's state in the RFS. -/
def State.ref (s : State) (c : Fin 8) : RfsChannel := s.rfs.channels[c]

/-- The stale condition, R23: unreferenced, or a backlog of 12 or more. -/
def RfsChannel.stale (r : RfsChannel) : Bool :=
  r.refState.any (·.unreferenced) || overdueFrom ≤ r.backlog

/-- A channel's backlog takes a value; rising to 12 or more from below raises REFERENCE_OVERDUE
(R25). -/
def State.setBacklog (c : Fin 8) (n : Nat) (s : State) : State :=
  let old := (s.ref c).backlog
  let s := s.rfsChannel c fun r => { r with backlog := n }
  if old < overdueFrom ∧ overdueFrom ≤ n then s.raise .referenceOverdue .none else s

/-- A channel's interval counter is reloaded with the active entry's reference interval (R26). -/
def State.reloadInterval (c : Fin 8) (s : State) : State :=
  s.rfsChannel c fun r => { r with interval := (enabledEntry (s.entry c)).map (·.refInterval) }

/-- The interval counters run: in STANDBY, MEASURING and PARKING, and in PARKED with keep-reference
(R26). -/
def State.intervalsRun (s : State) : Bool :=
  match s.scs.mode with
  | .unconfigured => false
  | .standby | .measuring | .parking => true
  | .parked => s.keepReference

/-! ### Issue (R29, R30) -/

/-- R29's table: the level of a backlog above 0 is allowed in a mode. -/
def levelAllowed (mode : Mode) (keepReference : Bool) (backlog : Nat) (otherOutstanding : Bool) :
    Bool :=
  match mode with
  | .unconfigured => false
  | .standby | .parking => true
  | .measuring => if backlog ≤ 3 then false else if backlog ≤ 7 then !otherOutstanding else true
  | .parked => keepReference && 8 ≤ backlog

/-- Some channel other than `c` has a request outstanding, in either phase. -/
def State.otherOutstanding (s : State) (c : Fin 8) : Bool :=
  allChannels.any fun d => d != c && (s.ref d).request.isSome

/-- R29: every condition for issuing a request for a channel holds. -/
def State.mayIssue (s : State) (c : Fin 8) : Bool :=
  s.enabled c && 0 < (s.ref c).backlog && (s.ref c).request.isNone && s.ali.inLock &&
    s.ali.outQueue.length < Config.aOutPlaces &&
    levelAllowed s.scs.mode s.keepReference (s.ref c).backlog (s.otherOutstanding c)

/-- A request is issued for a channel (R30). -/
def State.issue (c : Fin 8) (s : State) : State :=
  let tag := s.rfs.tagCounter
  let s := s.rfsChannel c fun r => { r with request := .some ⟨tag, .queued⟩ }
  let s := { s with
    rfs.tagCounter := (tag + 1) % 256
    ali.outQueue := s.ali.outQueue ++ [AOut.request c tag] }
  s.tallyChannel c fun k => { k with requestsIssued := inc32 k.requestsIssued }

/-- The examination of R30: the channels in ascending order, each against the state left by the
ones before it. -/
def State.examine (s : State) : State :=
  forChannels (fun c s => if s.mayIssue c then s.issue c else s) s

/-! ### The end of a request -/

/-- A channel's request becomes absent. -/
def State.dropRequest (c : Fin 8) (s : State) : State :=
  s.rfsChannel c fun r => { r with request := .none }

/-- The queued frame is a channel's reference request. -/
def AOut.isRequestOf (c : Fin 8) : AOut → Bool
  | .request d _ => d == c
  | .relayed _ => false

/-- Cancellation of a channel's outstanding request, R36: a QUEUED one is withdrawn from the A-out
queue. -/
def State.cancel (c : Fin 8) (s : State) : State :=
  match (s.ref c).request with
  | .none => s
  | .some r =>
    let s := s.dropRequest c
    let s := match r.phase with
      | .queued => { s with ali.outQueue := s.ali.outQueue.eraseP (AOut.isRequestOf c) }
      | .sent _ => s
    s.tallyChannel c fun k => { k with requestsCancelled := inc32 k.requestsCancelled }

/-- Every outstanding request is cancelled (R37). -/
def State.cancelAll (s : State) : State := forChannels State.cancel s

/-! ### Parking -/

/-- The drained condition of R39: every enabled channel has backlog 0 and no outstanding request. -/
def State.drained (s : State) : Bool :=
  allChannels.all fun c =>
    !s.enabled c || (decide ((s.ref c).backlog = 0) && (s.ref c).request.isNone)

/-- The mode is PARKING and the drained condition holds. -/
def State.drainedInParking (s : State) : Bool := decide (s.scs.mode = .parking) && s.drained

/-- R39: the RFS reports "drained" when the condition comes to hold in PARKING, and at the entry
into PARKING when it holds already. `before` is the state the event found. -/
def State.reportDrained (before after : State) : State :=
  if after.drainedInParking && !before.drainedInParking then
    { after with rfs.drainReports := after.rfs.drainReports + 1 }
  else after

/-- The RFS's share in leaving PARKED, R40, before the examination. -/
def State.leaveParked (s : State) : State :=
  if s.keepReference then s
  else
    forChannels (fun c s =>
      if s.enabled c then (s.setBacklog c (max (s.ref c).backlog overdueFrom)).reloadInterval c
      else s) s

/-- The mode changes and the RFS examines the channels (R30). -/
def State.toMode (m : Mode) (s : State) : State :=
  { s with scs.mode := m }.examine

end Sys2Proof.Machine
end

