-- ==== Sys2Proof/Machine/Tables.lean ====
section
/-! DEFINITION. Applying an activation (section 8.4): the change report of R139 and what the RFS, the
ETU, the TRU and the SCS do with it. -/

namespace Sys2Proof.Machine

/-- The classes of R139. -/
inductive SlotChange where
  | newlyEnabled
  | newlyDisabled
  | referenceChanged
  | intervalChanged
  | unchanged
  deriving DecidableEq, Repr

/-- The reference parameters compared by R139. -/
def ChannelEntry.referenceParameters (e : ChannelEntry) : List Nat :=
  [e.rnom, e.refTolerance, e.r1Start, e.r1Length, e.rSpacingMin, e.rSpacingMax, e.rThreshold,
   e.peakWindow, e.fraction]

/-- The class of a slot between the previous active set and the new one (R139). -/
def slotChange (before after : Option ChannelEntry) : SlotChange :=
  match enabledEntry before, enabledEntry after with
  | .none, .none => .unchanged
  | .none, .some _ => .newlyEnabled
  | .some _, .none => .newlyDisabled
  | .some a, .some b =>
    if a.referenceParameters ≠ b.referenceParameters then .referenceChanged
    else if a.refInterval ≠ b.refInterval then .intervalChanged
    else .unchanged

/-- The ETU at an activation: a newly enabled or newly disabled slot loses its previous sequence and
its temperature hold (R7, R21). -/
def EtuChannel.applyChange (change : SlotChange) (e : EtuChannel) : EtuChannel :=
  match change with
  | .newlyEnabled | .newlyDisabled => { e with prevSeq := .none, heldTemp := .none, holdAge := 0 }
  | .referenceChanged | .intervalChanged | .unchanged => e

/-- A channel starts afresh under new reference parameters: backlog 8, Rmeas equal to Rnom,
unreferenced, counter reloaded (R38). -/
def State.renewReference (c : Fin 8) (s : State) : State :=
  let s := s.setBacklog c 8
  let s := s.rfsChannel c fun r =>
    { r with refState := (enabledEntry (s.entry c)).map fun e => ⟨e.rnom, true⟩ }
  s.reloadInterval c

/-- The RFS at an activation, one channel, R38. -/
def State.applyReferenceChange (c : Fin 8) (change : SlotChange) (s : State) : State :=
  match change with
  | .unchanged => s
  | .intervalChanged => s.reloadInterval c
  | .referenceChanged => (s.cancel c).renewReference c
  | .newlyEnabled => s.renewReference c
  | .newlyDisabled =>
    let s := (s.cancel c).setBacklog c 0
    s.rfsChannel c fun r => { r with interval := .none, refState := .none }

/-- A departure of the detector starts when the raw level differs from the detector level and no
timer is present (R62 step 1). -/
def State.startDeparture (s : State) : State :=
  if s.rawLevel ≠ s.tru.detectorLevel ∧ s.tru.debounce = .none then
    { s with tru.debounce := .some (s.lineField (·.debounce)) }
  else s

/-- The TRU at an activation, R64: a change of polarity, which the first activation counts as, makes
a present timer absent and starts a departure afresh. -/
def State.applyDetectorChange (before : Option LineSetup) (s : State) : State :=
  if before.map (·.polarity) ≠ s.line.map (·.polarity) then
    { s with tru.debounce := .none }.startDeparture
  else s

/-- The generation after an application, R138. -/
def nextGeneration (g : Nat) : Nat := if g = max32 then 1 else g + 1

/-- Steps 1 to 4 of R137: the staged set replaces the active set whole. -/
def State.replaceActive (s : State) : State :=
  { s with
    tbs.active := s.tbs.staged
    tbs.generation := nextGeneration s.tbs.generation
    tbs.activeValid := true
    tbs.activationPending := false }

/-- The class of a slot between a previous active set and the present one (R139). -/
def State.changeOf (before : TableSet) (s : State) (c : Fin 8) : SlotChange :=
  slotChange before.channels[c] s.tbs.active.channels[c]

/-- The ETU takes the change report (R7, R21). -/
def State.reportToEtu (before : TableSet) (s : State) : State :=
  forChannels (fun c t => t.etuChannel c (·.applyChange (s.changeOf before c))) s

/-- The RFS takes the change report and examines the channels (R38). -/
def State.reportToRfs (before : TableSet) (s : State) : State :=
  (forChannels (fun c t => t.applyReferenceChange c (s.changeOf before c)) s).examine

/-- Step 6 of R137: the SCS leaves UNCONFIGURED for STANDBY (R146). -/
def State.leaveUnconfigured (s : State) : State :=
  if s.scs.mode = .unconfigured then
    { s with scs.parkRequest := false, scs.drainTimer := .none }.toMode .standby
  else s

/-- Applying an activation, R137. -/
def State.applyActivation (s : State) : State :=
  let before := s.tbs.active
  let s := (s.replaceActive.reportToEtu before).reportToRfs before
  let s := ((s.applyDetectorChange before.line).leaveUnconfigured).raise .tablesActivated .none
  s.tally fun k => { k with tbs.activationsApplied := inc32 k.tbs.activationsApplied }

end Sys2Proof.Machine
end

