-- ==== Sys2Proof/Machine/Shells.lean ====
section
/-! DEFINITION. The Shell Context Store (chapters 5 and 9): closing, completion and the shell
boundary, the settling of the mode, head-ends and tail-ends, length advances, and the assignment of
shots to shells. -/

namespace Sys2Proof.Machine

/-! ### The mode (chapter 9) -/

/-- The entry into PARKING: the drain timer is loaded with the active park drain limit (R148, R149). -/
def State.enterParking (s : State) : State :=
  { s with scs.drainTimer := .some (s.lineField (·.parkDrainLimit)) }.toMode .parking

/-- The entry into PARKED: the drain timer becomes absent, the mode changes and PARK_STATE is raised
(R151, R152). -/
def State.enterParked (s : State) : State :=
  ({ s with scs.drainTimer := .none }.toMode .parked).raise .parkState .none

/-- The mode once no context is OPEN or CLOSING: from MEASURING to STANDBY, or to PARKING when the
park request is set; any other mode stays (R78, R84, R147, R148). -/
def State.settleMode (s : State) : State :=
  if s.scs.mode = .measuring then
    if s.scs.parkRequest then s.enterParking else s.toMode .standby
  else s

/-! ### Closing and completion -/

/-- A flag that makes a completion raise TAIL_IRREGULAR (R84). -/
def Irregularity.tail (r : Irregularity) : Bool :=
  r.tailForced || r.tailCut || r.dwell || r.tailStalled

/-- Completing a CLOSING context, R84, without the boundary; `mark` adds the completion's
irregularity flag. -/
def State.complete (i : Fin 4) (mark : Irregularity → Irregularity) (s : State) : State :=
  match s.scs.contexts[i] with
  | .none => s
  | .some sh =>
    match sh.phase with
    | .closing tailMark _ _ =>
      let done := { sh.closeRuns with phase := .complete tailMark, irregular := mark sh.irregular }
      let s := { s with scs.contexts := s.scs.contexts.set i (.some done) }
      let s := s.raise .shellComplete (.some sh.sequence)
      if done.irregular.tail then s.raise .tailIrregular (.some sh.sequence) else s
    | _ => s

/-- A context enters CLOSING with its tail mark at the current length (R79), and completes at once
when the completion length is already reached. `mark` adds the cause's irregularity flag. -/
def State.enterClosing (i : Fin 4) (mark : Irregularity → Irregularity) (s : State) : State :=
  let tailMark := s.currentLength
  let completion := tailMark + s.lineField (·.ringOffset) + s.lineField (·.tailMargin)
  let s := s.shellAt i fun sh =>
    { sh with
      phase := .closing tailMark (s.lineField (·.tailTimeout)) completion
      irregular := mark sh.irregular }
  if completion ≤ tailMark then s.complete i id else s

/-- What follows a completion outside a head-end (R84): when no context is OPEN or CLOSING, a
pending activation is applied and the mode is settled. -/
def State.boundary (s : State) : State :=
  if s.gauging then s
  else (if s.tbs.activationPending then s.applyActivation else s).settleMode

/-- A tail-end, R80. -/
def State.tailEnd (s : State) : State :=
  match s.openContext with
  | .some i => (s.enterClosing i id).boundary
  | .none => s.tally fun k => { k with scs.strayTails := inc32 k.scs.strayTails }

/-- CLOSING with a completion length that the length reaches or exceeds (R82). -/
def Shell.reached (length : Nat) (sh : Shell) : Bool :=
  match sh.phase with
  | .closing _ _ completion => completion ≤ length
  | _ => false

/-- At most `n` of the contexts reached by the current length complete, oldest first (R82). -/
def State.completeReached : Nat → State → State
  | 0, s => s
  | n + 1, s =>
    match s.oldest (Shell.reached s.currentLength) with
    | .none => s
    | .some i => ((s.complete i id).boundary).completeReached n

/-- A length advance reported to the SCS (R59, R82). -/
def State.lengthAdvance (s : State) : State := s.completeReached 4

/-! ### The head-end (R74 to R78) -/

/-- Step 1, R75: the open shell is closed with TAIL_FORCED. -/
def State.headStep1 (s : State) : State :=
  match s.openContext with
  | .some i => s.enterClosing i fun r => { r with tailForced := true }
  | .none => s

/-- At most `n` CLOSING contexts complete with TAIL_CUT, oldest first (R75). -/
def State.cutTails : Nat → State → State
  | 0, s => s
  | n + 1, s =>
    match s.oldest Shell.isClosing with
    | .none => s
    | .some i => (s.complete i fun r => { r with tailCut := true }).cutTails n

/-- Step 2, R75: a pending activation cuts the CLOSING contexts and is applied. -/
def State.headStep2 (s : State) : State :=
  if s.tbs.activationPending then (s.cutTails 4).applyActivation else s

/-- Step 3, R76: the lowest-numbered FREE context, or the oldest COMPLETE one that is not being
streamed, reclaimed with REPORT_LOST. -/
def State.allocate (s : State) : Option (Fin 4) × State :=
  match allContexts.find? fun i => s.scs.contexts[i].isNone with
  | .some i => (.some i, s)
  | .none =>
    match s.oldest fun sh => sh.isComplete && !s.streamed sh with
    | .none => (.none, s)
    | .some i =>
      let lost := (s.freeContext i).raise .reportLost (.some (s.sequenceAt i))
      (.some i, lost.tally fun k => { k with scs.reportsLost := inc32 k.scs.reportsLost })

/-- A shell as it is opened (R77, R91, R108). -/
def newShell (bank : ProductBank) (sequence generation headMark : Nat) : Shell where
  phase := .opened 0
  sequence := sequence
  generation := generation
  bank := bank
  headMark := headMark
  irregular := .none
  accepted := 0
  wallMin := .none
  wallMax := .none
  wallSum := 0
  stale := 0
  rejects := ⟨0, 0, 0, 0, 0, 0⟩
  missed := 0
  beyondMap := 0
  spill := 0
  map := bank.emptyMap
  runs := Vector.replicate 8 .none
  excursions := []
  overflow := 0

/-- The next-sequence counter after a shell is opened: 0 after the last number (R72). -/
def nextSequenceAfter (n : Nat) : Nat := if n = max32 then 0 else n + 1

/-- The shell is missed (R76, R77). -/
def State.missShell (s : State) : State :=
  (s.raise .shellMissed .none).tally fun k =>
    { k with scs.shellsMissed := inc32 k.scs.shellsMissed }

/-- The product bank that step 4 binds, when the shell can be opened (R77). -/
def State.bindableBank (s : State) : Option ProductBank :=
  if s.scs.nextSequence = 0 then .none else s.tbs.active.banks[s.tbs.selectedBank]

/-- Step 4 with a bank, R77: the shell opens in a context. -/
def State.openShell (i : Fin 4) (bank : ProductBank) (s : State) : State :=
  let sequence := s.scs.nextSequence
  let s := { s with
    scs.contexts := s.scs.contexts.set i
      (.some (newShell bank sequence s.tbs.generation s.currentLength))
    scs.nextSequence := nextSequenceAfter sequence }
  (s.raise .shellOpened (.some sequence)).tally fun k =>
    { k with scs.shellsOpened := inc32 k.scs.shellsOpened }

/-- The mode after a head-end that opened a shell (R78, R147). -/
def State.settleOpened (s : State) : State :=
  let mode := s.scs.mode
  let s := { s with
    scs.mode := .measuring
    scs.drainTimer := .none
    scs.parkRequest := if mode = .parked then false else s.scs.parkRequest }
  match mode with
  | .measuring => s
  | .parked => (s.raise .parkState .none).leaveParked.examine
  | _ => s.examine

/-- The mode after a head-end that opened no shell (R78). -/
def State.settleMissed (s : State) : State := if s.gauging then s else s.settleMode

/-- Steps 3 and 4 and the settling of the mode. -/
def State.headSteps34 (s : State) : State :=
  match s.allocate with
  | (.none, s) => s.missShell.settleMissed
  | (.some i, s) =>
    match s.bindableBank with
    | .none => s.missShell.settleMissed
    | .some bank => (s.openShell i bank).settleOpened

/-- A head-end, R74. -/
def State.headEnd (s : State) : State :=
  if s.scs.mode = .unconfigured then
    s.tally fun k => { k with scs.headEndsIgnored := inc32 k.scs.headEndsIgnored }
  else s.headStep1.headStep2.headSteps34

/-! ### Assignment (R68, R85) -/

/-- The result of R85: assigned with a position, or rejected against a context or against none. -/
inductive Assignment where
  | assigned (context : Fin 4) (position : Nat)
  | beforeHead (context : Fin 4)
  | noShell
  deriving DecidableEq, Repr

/-- CLOSING with the tail not yet at the ring (R85 case 1). -/
def Shell.tailInRing (length ringOffset : Nat) (sh : Shell) : Bool :=
  match sh.phase with
  | .closing tailMark _ _ => length < tailMark + ringOffset
  | _ => false

/-- The position in the shell of a context, R68. -/
def State.positionIn (s : State) (i : Fin 4) : Int :=
  (s.currentLength : Int) - ((s.scs.contexts[i].map (·.headMark)).getD 0 : Nat) -
    (s.lineField (·.ringOffset) : Nat)

/-- A record judged against a context. -/
def State.judge (s : State) (i : Fin 4) : Assignment :=
  if 0 ≤ s.positionIn i then .assigned i (s.positionIn i).toNat else .beforeHead i

/-- The cases of R85 in order. -/
def State.assign (s : State) : Assignment :=
  match s.oldest (Shell.tailInRing s.currentLength (s.lineField (·.ringOffset))) with
  | .some i => s.judge i
  | .none =>
    match s.openContext with
    | .some i => s.judge i
    | .none => .noShell

end Sys2Proof.Machine
end

