-- ==== Sys2Proof/Machine/Links.lean ====
section
/-! DEFINITION. The two link interfaces (sections 12.1 to 12.4): receiving a frame, the A-link sender,
the M-out arbiter, and what holds of every event the part takes. -/

namespace Sys2Proof.Machine

/-! ### Every event -/

/-- An event is taken by the part: not while RESET is held asserted, when the part stays in its
hard-reset state (R184; log 5), and with the RFS's drained report sent when the event makes its
condition hold (R39). -/
def State.event (f : State → State) (s : State) : State :=
  if s.resetHeld then s else s.reportDrained (f s)

/-! ### Receiving (R173) -/

/-- The link is IN LOCK. -/
def State.linkInLock (s : State) : Link → Bool
  | .aLink => s.ali.inLock
  | .mLink => s.mli.inLock

/-- The error counter of a step of R173. -/
def countStep (link : Link) (step : FrameStep) (k : Counters) : Counters :=
  match link, step with
  | .aLink, .crc => { k with aLink.crcErrors := inc32 k.aLink.crcErrors }
  | .aLink, .length => { k with aLink.lengthErrors := inc32 k.aLink.lengthErrors }
  | .aLink, .kind => { k with aLink.unknownKinds := inc32 k.aLink.unknownKinds }
  | .mLink, .crc => { k with mLink.crcErrors := inc32 k.mLink.crcErrors }
  | .mLink, .length => { k with mLink.lengthErrors := inc32 k.mLink.lengthErrors }
  | .mLink, .kind => { k with mLink.unknownKinds := inc32 k.mLink.unknownKinds }

/-- A frame is discarded at a link: its step's counter increments and LINK_FAULT is raised (R173). -/
def State.discardFrame (link : Link) (step : FrameStep) (s : State) : State :=
  (s.tally (countStep link step)).raise .linkFault .none

/-- The frames-received counter of a link. -/
def countReceived (link : Link) (k : Counters) : Counters :=
  match link with
  | .aLink => { k with aLink.framesReceived := inc32 k.aLink.framesReceived }
  | .mLink => { k with mLink.framesReceived := inc32 k.mLink.framesReceived }

/-- A frame arrives on a link (R173). No frame is received while the link is out of lock (R179,
R184). A frame that fails a step is discarded; one that passes goes to its owner. `kind` is the
row's: a good frame of another kind is another row's event, and is disregarded here (log 4). -/
def State.receive (link : Link) (kind : Byte) (owner : Frame → State → State) (bytes : List Byte)
    (s : State) : State :=
  if s.linkInLock link then
    match checkFrame link bytes with
    | .failed step => s.discardFrame link step
    | .passed f => if f.kind = kind then owner f (s.tally (countReceived link)) else s
  else s

/-- A concentrator message is offered to the relay queue (R176). -/
def State.offerRelay (f : Frame) (s : State) : State :=
  match offer Config.relayPlaces ⟨f.flags, f.payload⟩ s.mli.relayQueue with
  | .some q => { s with mli.relayQueue := q }
  | .none => s.tally fun k =>
    { k with mLink.concentratorDropped := inc32 k.mLink.concentratorDropped }

/-- A relay message is offered to the A-out queue (R177, R180). -/
def State.offerRelayed (f : Frame) (s : State) : State :=
  match offer Config.aOutPlaces (AOut.relayed ⟨f.flags, f.payload⟩) s.ali.outQueue with
  | .some q => { s with ali.outQueue := q }.examine
  | .none =>
    (s.tally fun k => { k with aLink.relayedDropped := inc32 k.aLink.relayedDropped }).raise
      .linkFault .none

/-- A COMMAND frame is offered to the command queue (R180). -/
def State.offerCommand (f : Frame) (s : State) : State :=
  match f.payload with
  | tag :: code :: args =>
    match offer Config.commandPlaces (⟨tag, code, args⟩ : Command) s.cmu.commands with
    | .some q => { s with cmu.commands := q }
    | .none =>
      (s.tally fun k => { k with mLink.commandsOverrun := inc32 k.mLink.commandsOverrun }).raise
        .commandOverrun .none
  | _ =>
    (s.tally fun k => { k with mLink.malformedCommands := inc32 k.mLink.malformedCommands }).raise
      .linkFault .none

/-! ### The A-link sender (R31, R177) -/

/-- The A-link is IN LOCK and free to start a frame. -/
def State.aReady (s : State) : Bool := s.ali.inLock && s.ali.sending.isNone

/-- The queued frame is a reference request. -/
def AOut.isRequest : AOut → Bool
  | .request _ _ => true
  | .relayed _ => false

/-- A frame starts on the A-link. The frames-sent counter increments as the frame is taken, which R177
does not settle (DESIGN CHOICE, log 21). -/
def State.startA (f : Frame) (s : State) : State :=
  { s with ali.sending := .some f }.tally fun k =>
    { k with aLink.framesSent := inc32 k.aLink.framesSent }

/-- The REFERENCE REQUEST frame of a channel and tag (R177). -/
def requestFrame (c : Fin 8) (tag : Nat) : Frame := ⟨0x21, 0, be 1 c.val ++ be 1 tag⟩

/-- The RELAYED MESSAGE frame of a message (R177). -/
def relayedFrame (m : Message) : Frame := ⟨0x22, m.flags, m.payload⟩

/-- The ALI takes the oldest reference request, which becomes SENT with its timeout counter loaded
(R31, R177). -/
def State.takeRequest (s : State) : State :=
  match s.ali.outQueue.find? AOut.isRequest with
  | .some (.request c tag) =>
    let s := { s with ali.outQueue := s.ali.outQueue.eraseP AOut.isRequest }
    let s := s.rfsChannel c fun r =>
      { r with request := r.request.map fun q =>
          { q with phase := .sent (s.lineField (·.refTimeout)) } }
    (s.startA (requestFrame c tag)).examine
  | _ => s

/-- With no request queued, the ALI takes the oldest relayed message (R177). -/
def State.takeRelayed (s : State) : State :=
  match s.ali.outQueue with
  | .relayed m :: rest =>
    if rest.any AOut.isRequest then s
    else ({ s with ali.outQueue := rest }.startA (relayedFrame m)).examine
  | _ => s

/-! ### The M-out arbiter (R179) -/

/-- The seven classes of R179. -/
inductive MClass where
  | reply
  | urgent
  | report
  | routine
  | live
  | relay
  | forward
  deriving DecidableEq, Repr

/-- The first class of R179's list that has a frame to offer. -/
def State.mClass (s : State) : Option MClass :=
  if !s.cmu.replies.isEmpty then .some .reply
  else if !s.evu.urgent.isEmpty then .some .urgent
  else if s.rpb.isSome then .some .report
  else if !s.evu.routine.isEmpty then .some .routine
  else if !s.ldu.liveQueue.isEmpty then .some .live
  else if !s.mli.relayQueue.isEmpty then .some .relay
  else if !s.mli.forwardQueue.isEmpty then .some .forward
  else .none

/-- The M-link is IN LOCK and free to start a frame. -/
def State.mReady (s : State) : Bool := s.mli.inLock && s.mli.sending.isNone

/-- The arbiter takes a class: the link can start a frame and no higher class has one. -/
def State.mTakes (s : State) (c : MClass) : Bool := s.mReady && decide (s.mClass = .some c)

/-- A frame starts on the M-link. The frames-sent counter increments as the frame is taken, which R179
does not settle (DESIGN CHOICE, log 21). -/
def State.startM (f : Frame) (s : State) : State :=
  { s with mli.sending := .some f }.tally fun k =>
    { k with mLink.framesSent := inc32 k.mLink.framesSent }

/-- The REPLY frame (section 12.5). -/
def Reply.frame (r : Reply) : Frame := ⟨0x41, 0, r.tag :: r.code :: (be 1 r.status.code ++ r.data)⟩

/-- The NOTICE frame (section 12.7). -/
def Notice.frame (n : Notice) : Frame :=
  ⟨0x42, 0, be 1 n.flag.index.val ++ be 1 n.count ++ beOpt 4 n.sequence⟩

/-- The marks byte of a wall sample (section 12.7). -/
def WallSample.marks (w : WallSample) : Nat :=
  w.stale.toNat + 2 * w.tempClamped.toNat + 4 * (decide (w.shotClass = .thin)).toNat +
    8 * (decide (w.shotClass = .thick)).toNat + 16 * w.beyondMap.toNat

/-- The WALL SAMPLE frame (section 12.7). -/
def WallSample.frame (w : WallSample) : Frame :=
  ⟨0x44, 0, be 1 w.channel.val ++ be 2 w.shotSequence ++ be 4 w.contextSequence ++
    beSigned 4 w.position ++ be 4 w.zone ++ be 1 w.sector ++ be 4 w.wHot ++ be 4 w.wCold ++
    be 2 w.temperature ++ be 2 w.velocity ++ be 1 w.marks⟩

/-- The CONCENTRATOR MESSAGE frame (R176). -/
def concentratorFrame (m : Message) : Frame := ⟨0x45, m.flags, m.payload⟩

/-- The FORWARDED RECORD frame (R178). -/
def Forwarded.frame (f : Forwarded) : Frame := ⟨0x46, BitVec.ofNat 8 f.outcome.code, f.payload⟩

/-- SEND_REPLY. -/
def State.takeReply (s : State) : State :=
  if s.mTakes .reply then
    match s.cmu.replies with
    | r :: rest => { s with cmu.replies := rest }.startM r.frame
    | [] => s
  else s

/-- SEND_NOTICE of the urgent queue, or of the routine queue (R168). -/
def State.takeNotice (s : State) : State :=
  if s.mTakes .urgent then
    match s.evu.urgent with
    | n :: rest => { s with evu.urgent := rest }.startM n.frame
    | [] => s
  else if s.mTakes .routine then
    match s.evu.routine with
    | n :: rest => { s with evu.routine := rest }.startM n.frame
    | [] => s
  else s

/-- The shell being streamed (R109). -/
def State.streamedShell (s : State) (st : Stream) : Option Shell :=
  (s.contextOf st.sequence).bind fun i => s.scs.contexts[i]

/-- The next frame of the running stream (R114), the last of which returns the cursor to IDLE
(R122). -/
def State.takeReportFrame (s : State) : State :=
  if s.mTakes .report then
    match s.rpb with
    | .none => s
    | .some st =>
      match s.streamedShell st with
      | .none => s
      | .some sh =>
        let last := decide (st.next + 1 = st.frameCount)
        let s := { s with rpb := if last then .none else .some { st with next := st.next + 1 } }
        let s := s.tally fun k =>
          { k with
            rpb.framesSent := inc32 k.rpb.framesSent
            rpb.streamsCompleted :=
              if last then inc32 k.rpb.streamsCompleted else k.rpb.streamsCompleted }
        s.startM ⟨0x43, 0, reportPayload sh st⟩
  else s

/-- SEND_WALL_SAMPLE. -/
def State.takeSample (s : State) : State :=
  if s.mTakes .live then
    match s.ldu.liveQueue with
    | w :: rest => { s with ldu.liveQueue := rest }.startM w.frame
    | [] => s
  else s

/-- SEND_CONCENTRATOR_MESSAGE. -/
def State.takeRelay (s : State) : State :=
  if s.mTakes .relay then
    match s.mli.relayQueue with
    | m :: rest => { s with mli.relayQueue := rest }.startM (concentratorFrame m)
    | [] => s
  else s

/-- SEND_FORWARDED_RECORD. -/
def State.takeForwarded (s : State) : State :=
  if s.mTakes .forward then
    match s.mli.forwardQueue with
    | f :: rest => { s with mli.forwardQueue := rest }.startM f.frame
    | [] => s
  else s

end Sys2Proof.Machine
end

