-- ==== Sys2Proof/Machine/Commands.lean ====
section
/-! DEFINITION. The Command Unit (section 12.5): which row a queued command is, and the one event that
takes a command, acts and queues the reply (R180). -/

namespace Sys2Proof.Machine

/-- The row a queued command is: by its code (section 12.5), the loads with arguments of the short
form's length being LOAD_SHORT_FORM (R132; log 17), and a code that names no command being
UNKNOWN_COMMAND (R180). -/
def Command.row (c : Command) : Instr :=
  match c.code.toNat with
  | 0x01 => .identify
  | 0x02 => if c.args.length = 1 then .loadShortForm else .loadChannel
  | 0x03 => if c.args.length = 1 then .loadShortForm else .loadVelocity
  | 0x04 => if c.args.length = 1 then .loadShortForm else .loadBank
  | 0x05 => if c.args.length = 0 then .loadShortForm else .loadLine
  | 0x06 => .readTable
  | 0x07 => .activate
  | 0x08 => .selectBank
  | 0x09 => .forceHead
  | 0x0A => .forceTail
  | 0x0B => .park
  | 0x0C => .unpark
  | 0x0D => .fetchReport
  | 0x0E => .releaseReport
  | 0x0F => .readSnapshot
  | 0x10 => .armCapture
  | 0x11 => .readCapture
  | 0x12 => .readEvents
  | 0x13 => .clearEvents
  | 0x14 => .setEventMask
  | 0x15 => .readCounters
  | 0x16 => .restart
  | _ => .unknownCommand

/-- What a command does and is answered. -/
structure Answer where
  state : State
  status : Status
  data : List Byte
  deriving DecidableEq, Repr

/-- An answer without data. -/
def State.answer (s : State) (status : Status) : Answer := ⟨s, status, []⟩

/-- The CMU takes the oldest queued command (R180): only while the reply queue has a free place. The
command leaves the queue, acts, and its reply joins the tail of the reply queue. `row` is the row
being executed; when the oldest command is another row's, this row's event does not occur (log 4). -/
def State.takeCommand (row : Instr) (act : Command → State → Answer) (s : State) : State :=
  match s.cmu.commands with
  | [] => s
  | c :: rest =>
    if s.cmu.replies.length < Config.replyPlaces ∧ c.row = row then
      let a := act c { s with cmu.commands := rest }
      { a.state with
        cmu.replies := a.state.cmu.replies ++ [⟨c.tag, c.code, a.status, a.data⟩] }
    else s

/-- A command that carries no arguments: FORMAT otherwise (section 12.5). -/
def noArguments (act : State → Answer) (c : Command) (s : State) : Answer :=
  if c.args = [] then act s else s.answer .format

/-- A command whose arguments are `n` bytes: FORMAT otherwise. -/
def argumentsOf (n : Nat) (act : List Byte → State → Answer) (c : Command) (s : State) : Answer :=
  if c.args.length = n then act c.args s else s.answer .format

/-- The argument byte at an offset. -/
def argByte (args : List Byte) (offset : Nat) : Nat := (args.getD offset 0).toNat

end Sys2Proof.Machine
end

