-- ==== Sys2Proof/Machine/EventCommands.lean ====
section
/-! DEFINITION. The Event Unit's commands (section 11.4): READ EVENTS, CLEAR EVENTS, SET EVENT MASK. -/

namespace Sys2Proof.Machine

/-- Bits 18 to 23 of a set of flags are 0. -/
def flagSetInRange (n : Nat) : Bool := n < 2 ^ 18

/-- The set of flags that are set. -/
def State.setFlags (s : State) : List Byte := flagSet fun f => (s.flag f).isSet

/-- The enable mask. -/
def State.mask (s : State) : List Byte := flagSet fun f => (s.flag f).enabled

/-- READ EVENTS, R170. -/
def State.readEvents (s : State) : Answer :=
  ⟨s, .done, s.setFlags ++ s.mask ++ (allFlags.map fun f => be 1 (s.flag f).count).flatten ++
    (allFlags.map fun f => beOpt 4 (s.flag f).latest).flatten⟩

/-- One flag takes a value. -/
def State.setFlag (f : Flag) (v : FlagState) (s : State) : State :=
  { s with evu.flags := s.evu.flags.set f.index v }

/-- A named flag is cleared with its count and latest sequence (R171). -/
def State.clearFlag (n : Nat) (s : State) (f : Flag) : State :=
  if inFlagSet n f then
    s.setFlag f { s.flag f with isSet := false, count := 0, latest := .none }
  else s

/-- CLEAR EVENTS, R171. -/
def State.clearEvents (args : List Byte) (s : State) : Answer :=
  let n := ofBytes args
  if flagSetInRange n then
    ⟨allFlags.foldl (State.clearFlag n) s, .done,
      (allFlags.map fun f => be 1 (if inFlagSet n f then (s.flag f).count else 0)).flatten⟩
  else s.answer .range

/-- A flag's enable mark takes its value from the new mask; a set flag whose mark goes from clear to
set forms a notice with its present count and latest sequence (R172). -/
def State.maskFlag (n : Nat) (s : State) (f : Flag) : State :=
  let old := s.flag f
  let s := s.setFlag f { old with enabled := inFlagSet n f }
  if old.isSet && !old.enabled && inFlagSet n f then s.offerNotice ⟨f, old.count, old.latest⟩ else s

/-- SET EVENT MASK, R172. -/
def State.setEventMask (args : List Byte) (s : State) : Answer :=
  let n := ofBytes args
  if flagSetInRange n then ⟨allFlags.foldl (State.maskFlag n) s, .done, s.mask⟩
  else s.answer .range

/-! ### The meanings -/

/-- READ_EVENTS. -/
def execReadEvents (s : State) : Host.Outcome State Fault Refusal :=
  .next (s.event (State.takeCommand .readEvents (noArguments State.readEvents)))

/-- CLEAR_EVENTS. -/
def execClearEvents (s : State) : Host.Outcome State Fault Refusal :=
  .next (s.event (State.takeCommand .clearEvents (argumentsOf 3 State.clearEvents)))

/-- SET_EVENT_MASK. -/
def execSetEventMask (s : State) : Host.Outcome State Fault Refusal :=
  .next (s.event (State.takeCommand .setEventMask (argumentsOf 3 State.setEventMask)))

end Sys2Proof.Machine
end

