-- ==== Sys2Proof/Machine/Echo.lean ====
section
/-! DEFINITION. Echo timing by the constant-fraction method (sections 1.5 and 1.6). -/

namespace Sys2Proof.Machine

/-- The magnitude of sample `k` (section 1.1). -/
def magnitude (samples : List Int) (k : Nat) : Nat := (samples.getD k 0).natAbs

/-- The sample indices from `first` to `last`, both included, in ascending order. -/
def indices (first last : Nat) : List Nat := List.range' first (last + 1 - first)

/-- Why an echo is not timed (R14, R15). -/
inductive EchoFail where
  | notFound
  | edge
  deriving DecidableEq, Repr

/-- A timed echo: its arm sample and its echo time in ticks. -/
structure Echo where
  arm : Nat
  time : Nat
  deriving DecidableEq, Repr

/-- A timed echo, or why it is not. -/
inductive EchoResult where
  | timed (echo : Echo)
  | failed (reason : EchoFail)
  deriving DecidableEq, Repr

/-- A gate: first and last sample index, both included (R13). -/
structure Gate where
  first : Nat
  last : Nat
  deriving DecidableEq, Repr

/-- The gate's last index clipped to a record of `n` samples (R13); `n` is at least 1. -/
def Gate.clippedLast (g : Gate) (n : Nat) : Nat := min g.last (n - 1)

/-- The arm sample: the lowest index of the clipped gate whose magnitude reaches `threshold` (R14). -/
def armSample (samples : List Int) (g : Gate) (threshold : Nat) : Option Nat :=
  (indices g.first (g.clippedLast samples.length)).find? fun k => threshold ≤ magnitude samples k

/-- The largest magnitude among the given samples. -/
def largest (samples : List Int) (l : List Nat) : Nat :=
  l.foldl (fun p k => max p (magnitude samples k)) 0

/-- The highest index from `first` to `peak - 1` whose magnitude lies below `level` (R15). -/
def crossingSample (samples : List Int) (first peak level : Nat) : Option Nat :=
  (List.range' first (peak - first)).reverse.find? fun k => magnitude samples k < level

/-- The echo time of R16. -/
def echoTime (samples : List Int) (k level : Nat) : Nat :=
  k * 64 + 64 * (level - magnitude samples k) / (magnitude samples (k + 1) - magnitude samples k)

/-- R13 to R16: one echo in a gate, with an arm threshold, the peak window W and the fraction f. -/
def timeEcho (samples : List Int) (g : Gate) (threshold window fraction : Nat) : EchoResult :=
  match armSample samples g threshold with
  | .none => .failed .notFound
  | .some arm =>
    let span := indices arm (min (arm + window - 1) (g.clippedLast samples.length))
    let peak := largest samples span
    let peakSample := (span.find? fun k => magnitude samples k == peak).getD arm
    let level := peak * fraction / 256
    match crossingSample samples g.first peakSample level with
    | .none => .failed .edge
    | .some k => .timed ⟨arm, echoTime samples k level⟩

/-- The gates and thresholds of the two echoes of a record (R17, R18). -/
structure GateSet where
  start : Nat
  length : Nat
  firstThreshold : Nat
  spacingMin : Nat
  spacingMax : Nat
  secondThreshold : Nat
  deriving DecidableEq, Repr

/-- The measurement gates of a channel (R17). -/
def ChannelEntry.measurementGates (e : ChannelEntry) : GateSet :=
  ⟨e.g1Start, e.g1Length, e.b1Threshold, e.b2SpacingMin, e.b2SpacingMax, e.b2Threshold⟩

/-- The reference gate set of a channel (R18). -/
def ChannelEntry.referenceGates (e : ChannelEntry) : GateSet :=
  ⟨e.r1Start, e.r1Length, e.rThreshold, e.rSpacingMin, e.rSpacingMax, e.rThreshold⟩

/-- What timing gives: both echo times and the transit, or the outcome with the times reached. -/
inductive Timing where
  | timed (t1 t2 transit : Nat)
  | failed (outcome : ShotOutcome) (times : EchoTimes)
  deriving DecidableEq, Repr

/-- No echo time reached. -/
def EchoTimes.none : EchoTimes := ⟨.none, .none, .none⟩

/-- The outcome of an echo that is not timed; `missing` is NO_B1 or NO_B2. -/
def EchoFail.outcome (missing : ShotOutcome) : EchoFail → ShotOutcome
  | .notFound => missing
  | .edge => .edge

/-- The two steps of R17, with the gate set of R17 or R18. -/
def timeRecord (samples : List Int) (e : ChannelEntry) (g : GateSet) : Timing :=
  match timeEcho samples ⟨g.start, g.start + g.length - 1⟩ g.firstThreshold e.peakWindow e.fraction with
  | .failed r => .failed (r.outcome .noB1) .none
  | .timed first =>
    match timeEcho samples ⟨first.arm + g.spacingMin, first.arm + g.spacingMax⟩ g.secondThreshold
        e.peakWindow e.fraction with
    | .failed r => .failed (r.outcome .noB2) ⟨.some first.time, .none, .none⟩
    | .timed second => .timed first.time second.time (second.time - first.time)

end Sys2Proof.Machine
end

