-- ==== Sys2Proof/Machine/Live.lean ====
section
/-! DEFINITION. The Live Data Unit (chapter 10) and the offer of records to capture and forwarding
(R9, R162, R178). -/

namespace Sys2Proof.Machine

/-- A wall sample is offered to the live queue (R156). -/
def State.offerSample (w : WallSample) (s : State) : State :=
  match offer Config.livePlaces w s.ldu.liveQueue with
  | .some q =>
    { s with ldu.liveQueue := q }.tally fun k =>
      { k with ldu.liveQueued := inc32 k.ldu.liveQueued }
  | .none =>
    (s.tally fun k => { k with ldu.liveOverruns := inc32 k.ldu.liveOverruns }).raise
      .liveOverrun .none

/-- The interval statistics take in an accepted wall (R158). -/
def IntervalStats.take (wCold : Nat) (i : IntervalStats) : IntervalStats where
  count := inc32 i.count
  min := if i.count = 0 then .some wCold else optMin i.min wCold
  max := if i.count = 0 then .some wCold else optMax i.max wCold

/-- The LDU's two changes at an ACCEPTED record (R158). -/
def State.takeWall (c : Fin 8) (wCold : Nat) (s : State) : State :=
  { s with
    ldu.lastWCold := s.ldu.lastWCold.set c (.some wCold)
    ldu.interval := s.ldu.interval.take wCold }

/-- The kind filter admits a record's kind (R161, R162). -/
def KindFilter.admits (f : KindFilter) (kind : Nat) : Bool :=
  match f with
  | .measure => kind == 0
  | .reference => kind == 1
  | .any => true

/-- The condition admits an outcome (R162). -/
def Condition.admits (d : Condition) (o : ShotOutcome) : Bool :=
  match d with
  | .next => true
  | .nextRejected => o.rejected

/-- A record with its final outcome is offered to capture (R162). -/
def State.offerCapture (c : Fin 8) (r : ShotRecord) (o : ShotOutcome) (t : EchoTimes) (s : State) :
    State :=
  match s.ldu.capture with
  | .armed target filter condition =>
    if target == c && filter.admits r.kind && condition.admits o then
      ({ s with ldu.capture := .captured r o t }.tally fun k =>
        { k with ldu.capturesTaken := inc32 k.ldu.capturesTaken }).raise .captureReady .none
    else s
  | _ => s

/-- The forward mode takes a record of this outcome (R178). -/
def ForwardMode.takes (m : ForwardMode) (o : ShotOutcome) : Bool :=
  match m with
  | .none => false
  | .rejected => o.rejected
  | .all => true

/-- A record with its final outcome is offered to forwarding (R178). -/
def State.offerForward (c : Fin 8) (r : ShotRecord) (o : ShotOutcome) (s : State) : State :=
  if (s.entry c).any fun e => e.forward.takes o then
    match offer Config.forwardPlaces ⟨o, r.payload⟩ s.mli.forwardQueue with
    | .some q => { s with mli.forwardQueue := q }
    | .none => s.tally fun k =>
      { k with mLink.forwardedDropped := inc32 k.mLink.forwardedDropped }
  else s

/-- A record's outcome becomes final: its channel's last outcome takes it, and the record is offered
to capture and forwarding (R9). -/
def State.finish (c : Fin 8) (r : ShotRecord) (o : ShotOutcome) (t : EchoTimes) (s : State) : State :=
  ((s.etuChannel c fun e => { e with lastOutcome := .some o }).offerCapture c r o t).offerForward c r o

end Sys2Proof.Machine
end

