-- ==== Sys2Proof/Machine/Records.lean ====
section
/-! DEFINITION. The working of one shot record from validation to its final outcome (R1): chapters 1,
2, 3, 5 and 6 in the order of R10 and R11. -/

namespace Sys2Proof.Machine

/-! ### Validation (section 1.2) -/

/-- Step 1 fails, R4. -/
def State.dropUnknownChannel (s : State) : State :=
  (s.tally fun k => { k with aLink.unknownChannels := inc32 k.aLink.unknownChannels }).raise
    .recordFault .none

/-- Step 2 of R3 fails. -/
def ShotRecord.badLength (r : ShotRecord) (payloadLength : Nat) : Bool :=
  r.sampleCount < 64 || 4096 < r.sampleCount || payloadLength != 9 + 2 * r.sampleCount || 1 < r.kind

/-- Step 2 fails, R5. -/
def State.dropBadLength (c : Fin 8) (s : State) : State :=
  ((s.etuChannel c fun e => { e with lastOutcome := .some .badLength }).tallyChannel c fun k =>
    { k with badLength := inc32 k.badLength }).raise .recordFault .none

/-- The record's sequence becomes the channel's previous sequence (R6). -/
def State.keepSequence (c : Fin 8) (r : ShotRecord) (s : State) : State :=
  s.etuChannel c fun e => { e with prevSeq := .some r.sequence }

/-- Step 3 fails, R8. -/
def State.dropForMode (c : Fin 8) (r : ShotRecord) (o : ShotOutcome) (s : State) : State :=
  ((s.keepSequence c r).tallyChannel c fun k => { k with modeDrops := inc32 k.modeDrops }).finish
    c r o .none

/-- The shots missing before a record, R6. -/
def sequenceGap (previous : Option Nat) (sequence : Nat) : Nat :=
  match previous with
  | .none => 0
  | .some p => (((sequence : Int) - p) % 65536).toNat - 1

/-! ### Temperature hold (section 1.7) -/

/-- A valid reading (R19). -/
def validReading (temperature : Nat) : Bool := temperature ≤ 20000

/-- R19. -/
def EtuChannel.refreshHold (temperature : Nat) (e : EtuChannel) : EtuChannel :=
  if validReading temperature then { e with heldTemp := .some temperature, holdAge := 0 } else e

/-- R20: the temperature used and the hold age after it, or no temperature. -/
def EtuChannel.resolve (temperature limit : Nat) (e : EtuChannel) : Option (Nat × Nat) :=
  if validReading temperature then .some (temperature, e.holdAge)
  else
    match e.heldTemp with
    | .none => .none
    | .some held => if e.holdAge < limit then .some (held, e.holdAge + 1) else .none

/-! ### A measurement record (R10) -/

/-- A reject is counted in its context (R86, R87). -/
def Shell.countReject (o : ShotOutcome) (sh : Shell) : Shell :=
  match o with
  | .beforeHead => { sh with rejects.beforeHead := inc32 sh.rejects.beforeHead }
  | .noB1 => { sh with rejects.noB1 := inc32 sh.rejects.noB1 }
  | .noB2 => { sh with rejects.noB2 := inc32 sh.rejects.noB2 }
  | .edge => { sh with rejects.edge := inc32 sh.rejects.edge }
  | .noTemperature => { sh with rejects.noTemperature := inc32 sh.rejects.noTemperature }
  | .implausible => { sh with rejects.implausible := inc32 sh.rejects.implausible }
  | _ => sh

/-- The velocity table an entry names in the active set (R44); ACTIVATE has checked that it is
present for an enabled channel (R134). -/
def State.velocityTable (s : State) (e : ChannelEntry) : VelocityTable :=
  ((s.tbs.active.velocities[e.velocityTable]?).join).getD ⟨[]⟩

/-- Rmeas of a channel; an enabled channel has a reference state (R22). -/
def State.rmeas (s : State) (c : Fin 8) (e : ChannelEntry) : Nat :=
  ((s.ref c).refState.map (·.rmeas)).getD e.rnom

/-- The accepted shot with its place on the map (R92). -/
def shotOf (c : Fin 8) (e : ChannelEntry) (bank : ProductBank) (position : Nat) (wCold : Nat)
    (stale : Bool) : Shot where
  channel := c
  position := position
  zone := bank.zoneOf position
  sector := bank.sectorOf e.headAngle position
  wCold := wCold
  shotClass := bank.classify wCold
  stale := stale

/-- The wall sample of an accepted shot (R155). -/
def sampleOf (r : ShotRecord) (sh : Shell) (shot : Shot) (w : WallResult) (t : Nat) : WallSample where
  channel := shot.channel
  shotSequence := r.sequence
  contextSequence := sh.sequence
  position := shot.position
  zone := shot.zone
  sector := shot.sector
  wHot := w.wHot
  wCold := w.wCold
  temperature := t
  velocity := w.velocity
  stale := shot.stale
  tempClamped := w.tempClamped
  shotClass := shot.shotClass
  beyondMap := liesBeyond shot.zone

/-- The first entry of a shell's excursion list raises EXCURSION (R105). -/
def State.raiseExcursion (before after : Shell) (s : State) : State :=
  if before.excursions.isEmpty && !after.excursions.isEmpty then
    s.raise .excursion (.some after.sequence)
  else s

/-- An ACCEPTED record at the SCS and the LDU (R55, R107, R155, R158). -/
def State.acceptShot (i : Fin 4) (sh : Shell) (e : ChannelEntry) (r : ShotRecord) (shot : Shot)
    (w : WallResult) (t : Nat) (s : State) : State :=
  let s := s.shellAt i (Shell.accept shot)
  let s := s.raiseExcursion sh (sh.accept shot)
  let s := s.takeWall shot.channel w.wCold
  if e.live then s.offerSample (sampleOf r sh shot w t) else s

/-- The walls, the plausibility check and what follows (R43, R53, R55), for a record assigned to
context `i` at `position`, timed, at temperature `t`. -/
def State.gauge (c : Fin 8) (e : ChannelEntry) (r : ShotRecord) (i : Fin 4) (position : Nat)
    (times : EchoTimes) (transit t : Nat) (s : State) : State :=
  match s.scs.contexts[i] with
  | .none => s
  | .some sh =>
    let w := computeWall e (s.velocityTable e) (s.rmeas c e) sh.bank.contraction transit t
    if sh.bank.plausible w.wCold then
      let shot := shotOf c e sh.bank position w.wCold (s.ref c).stale
      (s.acceptShot i sh e r shot w t).finish c r .accepted times
    else
      ((s.shellAt i (Shell.countReject .implausible)).tallyChannel c fun k =>
        { k with implausible := inc32 k.implausible }).finish c r .implausible times

/-- An assigned record is rejected (R87). -/
def State.rejectAssigned (c : Fin 8) (r : ShotRecord) (i : Fin 4) (o : ShotOutcome)
    (times : EchoTimes) (s : State) : State :=
  (s.shellAt i (Shell.countReject o)).finish c r o times

/-- Stages 2 to 4 of R10, for a record assigned to context `i`. -/
def State.timeAndGauge (c : Fin 8) (e : ChannelEntry) (r : ShotRecord) (i : Fin 4) (position : Nat)
    (s : State) : State :=
  match timeRecord r.samples e e.measurementGates with
  | .failed o times => s.rejectAssigned c r i o times
  | .timed t1 t2 transit =>
    let times : EchoTimes := ⟨.some t1, .some t2, .some transit⟩
    match s.etu[c].resolve r.temperature e.holdLimit with
    | .none => s.rejectAssigned c r i .noTemperature times
    | .some (t, age) =>
      (s.etuChannel c fun h => { h with holdAge := age }).gauge c e r i position times transit t

/-- A measurement record that has passed validation, R10; `gap` is its missed shots (R6). -/
def State.measure (c : Fin 8) (e : ChannelEntry) (r : ShotRecord) (gap : Nat) (s : State) : State :=
  let s := s.etuChannel c (·.refreshHold r.temperature)
  match s.assign with
  | .noShell =>
    (s.tally fun k => { k with scs.unassignedShots := inc32 k.scs.unassignedShots }).finish c r
      .noShell .none
  | .beforeHead i => (s.shellAt i (Shell.countReject .beforeHead)).finish c r .beforeHead .none
  | .assigned i position =>
    (s.shellAt i fun sh => { sh with missed := add32 sh.missed gap }).timeAndGauge c e r i position

/-! ### A reference record (R11) -/

/-- R34. -/
def State.rejectReference (c : Fin 8) (r : ShotRecord) (o : ShotOutcome) (times : EchoTimes)
    (s : State) : State :=
  let s := (s.dropRequest c).raise .referenceRejected .none
  let s := s.tallyChannel c fun k => { k with referencesRejected := inc32 k.referencesRejected }
  (s.finish c r o times).examine

/-- The tolerance test of R33. -/
def ChannelEntry.tolerates (e : ChannelEntry) (transit : Nat) : Bool :=
  ((transit : Int) - e.rnom).natAbs * 1000000 ≤ e.rnom * e.refTolerance

/-- The effects of an accepted transit, R33. -/
def State.acceptReference (c : Fin 8) (r : ShotRecord) (times : EchoTimes) (transit : Nat)
    (s : State) : State :=
  let s := s.setBacklog c ((s.ref c).backlog - 1)
  let s := s.rfsChannel c fun f => { f with refState := .some ⟨transit, false⟩, request := .none }
  let s := s.tallyChannel c fun k => { k with referencesAccepted := inc32 k.referencesAccepted }
  (s.finish c r .referenceAccepted times).examine

/-- The record answers its channel's outstanding request (R32). -/
def State.matchesRequest (s : State) (c : Fin 8) (r : ShotRecord) : Bool :=
  match (s.ref c).request with
  | .some ⟨tag, .sent _⟩ => tag == r.tag
  | _ => false

/-- A reference record that has passed validation (R11, R32 to R34). -/
def State.reference (c : Fin 8) (e : ChannelEntry) (r : ShotRecord) (s : State) : State :=
  if s.matchesRequest c r then
    match timeRecord r.samples e e.referenceGates with
    | .failed o times => s.rejectReference c r o times
    | .timed t1 t2 transit =>
      let times : EchoTimes := ⟨.some t1, .some t2, .some transit⟩
      if e.tolerates transit then s.acceptReference c r times transit
      else s.rejectReference c r .outOfTolerance times
  else
    (s.tallyChannel c fun k => { k with lateReferences := inc32 k.lateReferences }).finish c r
      .lateReference .none

/-! ### The whole record -/

/-- A record that passes the three steps: sequence-gap counting (R6), then the path of its kind. -/
def State.passRecord (c : Fin 8) (e : ChannelEntry) (r : ShotRecord) (s : State) : State :=
  let gap := sequenceGap s.etu[c].prevSeq r.sequence
  let s := (s.tallyChannel c fun k => { k with missedShots := add32 k.missedShots gap }).keepSequence
    c r
  if r.kind = 0 then s.measure c e r gap else s.reference c e r

/-- A SHOT RECORD payload at the ETU: the three steps of R3 and what follows them. -/
def State.takeRecord (payload : List Byte) (s : State) : State :=
  let r := readShotRecord payload
  match slotOf r.channel with
  | .none => s.dropUnknownChannel
  | .some c =>
    if s.scs.mode = .unconfigured then
      if r.badLength payload.length then s.dropBadLength c else s.dropForMode c r .unconfigured
    else
      match enabledEntry (s.entry c) with
      | .none => s.dropUnknownChannel
      | .some e =>
        if r.badLength payload.length then s.dropBadLength c
        else if s.scs.mode = .parked ∧ r.kind = 0 then s.dropForMode c r .parked
        else s.passRecord c e r

end Sys2Proof.Machine
end

