-- ==== Sys2Proof/Machine/FrameEvents.lean ====
section
/-! DEFINITION. What reaches the part over its two links: good frames, discarded frames, changes of
lock, and the end of a frame being sent (sections 12.1 to 12.5). -/

namespace Sys2Proof.Machine

/-! ### Frames (R173, R176, R180) -/

/-- A frame that fails a step of R173 arrives and is discarded; one that passes is another row's
event (log 4). -/
def State.receiveFailing (link : Link) (bytes : List Byte) (s : State) : State :=
  if s.linkInLock link then
    match checkFrame link bytes with
    | .failed step => s.discardFrame link step
    | .passed _ => s
  else s

/-- SHOT_RECORD. -/
def execShotRecord (frame : List Byte) (s : State) : Host.Outcome State Fault Refusal :=
  .next (s.event (State.receive .aLink 0x11 (fun f => State.takeRecord f.payload) frame))

/-- CONCENTRATOR_MESSAGE. -/
def execConcentratorMessage (frame : List Byte) (s : State) : Host.Outcome State Fault Refusal :=
  .next (s.event (State.receive .aLink 0x12 State.offerRelay frame))

/-- RELAY_MESSAGE. -/
def execRelayMessage (frame : List Byte) (s : State) : Host.Outcome State Fault Refusal :=
  .next (s.event (State.receive .mLink 0x32 State.offerRelayed frame))

/-- COMMAND_FRAME. -/
def execCommandFrame (frame : List Byte) (s : State) : Host.Outcome State Fault Refusal :=
  .next (s.event (State.receive .mLink 0x31 State.offerCommand frame))

/-- LINK_FRAME_DISCARDED. -/
def execLinkFrameDiscarded (link : Link) (frame : List Byte) (s : State) :
    Host.Outcome State Fault Refusal :=
  .next (s.event (State.receiveFailing link frame))

/-! ### Lock (R37, R175, R179) -/

/-- A frame partly received when its link loses lock is discarded as a length error (R173). -/
def State.discardPartial (link : Link) (partlyReceived : Bool) (s : State) : State :=
  if partlyReceived then s.discardFrame link .length else s

/-- The A-link's lock state changes (R175). -/
def State.changeALock (inLock : Bool) (s : State) : State :=
  ({ s with ali.inLock := inLock }.tally fun k =>
    { k with aLink.lockChanges := inc32 k.aLink.lockChanges }).raise .alinkState .none

/-- The A-link loses lock: the frame being sent is lost (R175), every outstanding request is
cancelled and the channels are examined (R30, R37). -/
def State.loseALock (partlyReceived : Bool) (s : State) : State :=
  if s.ali.inLock then
    let s := { s with ali.sending := .none }.changeALock false
    (s.discardPartial .aLink partlyReceived).cancelAll.examine
  else s

/-- The A-link gains lock, and the channels are examined (R37, R175). -/
def State.gainALock (s : State) : State :=
  if s.ali.inLock then s else (s.changeALock true).examine

/-- A frame being sent on the M-link is lost and counted (R179). -/
def State.abortM (s : State) : State :=
  if s.mli.sending.isSome then
    { s with mli.sending := .none }.tally fun k =>
      { k with mLink.framesAborted := inc32 k.mLink.framesAborted }
  else s

/-- The M-link loses lock: no flag and no counter of its own (R179). -/
def State.loseMLock (partlyReceived : Bool) (s : State) : State :=
  if s.mli.inLock then
    ({ s with mli.inLock := false }.abortM).discardPartial .mLink partlyReceived
  else s

/-- The M-link gains lock (R179). -/
def State.gainMLock (s : State) : State := { s with mli.inLock := true }

/-- A_LINK_LOCK_LOST. -/
def execALinkLockLost (partlyReceived : Bool) (s : State) : Host.Outcome State Fault Refusal :=
  .next (s.event (State.loseALock partlyReceived))

/-- A_LINK_LOCK_GAINED. -/
def execALinkLockGained (s : State) : Host.Outcome State Fault Refusal :=
  .next (s.event State.gainALock)

/-- M_LINK_LOCK_LOST. -/
def execMLinkLockLost (partlyReceived : Bool) (s : State) : Host.Outcome State Fault Refusal :=
  .next (s.event (State.loseMLock partlyReceived))

/-- M_LINK_LOCK_GAINED. -/
def execMLinkLockGained (s : State) : Host.Outcome State Fault Refusal :=
  .next (s.event State.gainMLock)

/-! ### The end of a frame (R177, R179) -/

/-- The link becomes free to start a frame. -/
def State.endFrame (link : Link) (s : State) : State :=
  match link with
  | .aLink => { s with ali.sending := .none }
  | .mLink => { s with mli.sending := .none }

/-- FRAME_SEND_COMPLETE. -/
def execFrameSendComplete (link : Link) (s : State) : Host.Outcome State Fault Refusal :=
  .next (s.event (State.endFrame link))

end Sys2Proof.Machine
end

