-- ==== Sys2Proof/Machine/LineEvents.lean ====
section
/-! DEFINITION. What the tracking wheel and the shell detector give the part (chapter 4). -/

namespace Sys2Proof.Machine

/-! ### LENGTH PULSE (R57 to R60) -/

/-- The largest value of the length counter, 2^48 − 1 (R57). -/
def lengthLimit : Nat := 281474976710655

/-- The pulse edge selection counts an edge to the level `high` (R58). -/
def PulseEdge.counts (p : PulseEdge) (high : Bool) : Bool :=
  match p with
  | .rising => high
  | .falling => !high
  | .both => true

/-- A counted edge: its travel is added, and a rise of the current length is reported to the SCS
(R57 to R59). -/
def State.countEdge (l : LineSetup) (s : State) : State :=
  let before := s.currentLength
  let s := { s with tru.lengthCounter := min (s.tru.lengthCounter + l.umPerPulse) lengthLimit }
  let s := s.tally fun k => { k with tru.edgesCounted := inc32 k.tru.edgesCounted }
  if before < s.currentLength then s.lengthAdvance else s

/-- LENGTH PULSE stands at a level: an edge when it differs from the last level seen (R58). While no
line setup is active no edge is counted. -/
def State.takePulse (s : State) : State :=
  let high := s.pins.lengthPulse
  if high = s.tru.pulseLevel then s
  else
    let s := { s with tru.pulseLevel := high }
    match s.line with
    | .some l => if l.pulseEdge.counts high then s.countEdge l else s
    | .none => s

/-- PULSE_EDGE: while RESET is held the line moves and the part does not see it (R184). -/
def execPulseEdge (high : Bool) (s : State) : Host.Outcome State Fault Refusal :=
  .next ({ s with pins.lengthPulse := high }.event State.takePulse)

/-! ### SHELL DETECT (R61 to R63) -/

/-- SHELL DETECT stands at a level: a departure, or the return that abandons one (R62 steps 1 and 3). -/
def State.takeDetect (s : State) : State :=
  if s.rawLevel = s.tru.detectorLevel then
    if s.tru.debounce.isSome then
      { s with tru.debounce := .none }.tally fun k =>
        { k with tru.changesAbandoned := inc32 k.tru.changesAbandoned }
    else s
  else s.startDeparture

/-- The detector takes a change, and its event goes to the SCS (R62 step 2, R63). -/
def State.takeChange (s : State) : State :=
  let raw := s.rawLevel
  let s := { s with tru.detectorLevel := raw, tru.debounce := .none }
  match raw with
  | .active =>
    (s.tally fun k => { k with tru.headEndsTaken := inc32 k.tru.headEndsTaken }).headEnd
  | .inactive =>
    (s.tally fun k => { k with tru.tailEndsTaken := inc32 k.tru.tailEndsTaken }).tailEnd

/-- A change of the detector is due: the timer is present and stands at 0, and the raw level still
differs from the detector level (R62 step 2). -/
def State.debounceDue (s : State) : Bool :=
  decide (s.tru.debounce = .some 0) && decide (s.rawLevel ≠ s.tru.detectorLevel)

/-- The millisecond mark that finds a change due takes it (R62 step 2); with a count left on the timer,
or with the levels agreeing, no change is taken (log 4). -/
def State.debounceOut (s : State) : State := if s.debounceDue then s.takeChange else s

/-- SHELL_DETECT_CHANGE. -/
def execShellDetectChange (high : Bool) (s : State) : Host.Outcome State Fault Refusal :=
  .next ({ s with pins.shellDetect := high }.event State.takeDetect)

/-- DEBOUNCE_EXPIRY. -/
def execDebounceExpiry (s : State) : Host.Outcome State Fault Refusal :=
  .next (s.event State.debounceOut)

end Sys2Proof.Machine
end

