-- ==== Sys2Proof/Machine/LiveCommands.lean ====
section
/-! DEFINITION. The Live Data Unit's commands (chapter 10): READ SNAPSHOT, ARM CAPTURE, READ CAPTURE. -/

namespace Sys2Proof.Machine

/-! ### READ SNAPSHOT (R159, R160) -/

/-- Item 4: the open context's sequence number and its ring position, both absent when no context is
OPEN. -/
def State.openContextBytes (s : State) : List Byte :=
  let o := s.openContext
  beOpt 4 (o.map s.sequenceAt) ++ presence 4 (o.map fun i => beSigned 4 (s.positionIn i))

/-- Item 6: one channel entry. -/
def State.channelBytes (s : State) (c : Fin 8) : List Byte :=
  beBool (s.enabled c) ++ beOpt 4 s.ldu.lastWCold[c] ++
    beOpt 1 (s.etu[c].lastOutcome.map (·.code)) ++ be 1 (s.ref c).backlog ++
    beBool (s.enabled c && (s.ref c).stale)

/-- The snapshot record, its items in the order of R159. -/
def State.snapshot (s : State) : List Byte :=
  be 1 s.scs.mode.code ++ beBool s.scs.parkRequest ++ be 4 s.tbs.generation ++
    beBool s.tbs.activationPending ++ be 1 s.tbs.selectedBank.val ++ s.openContextBytes ++
    be 6 s.currentLength ++ (allChannels.map s.channelBytes).flatten ++
    be 4 s.ldu.interval.count ++ beOpt 4 s.ldu.interval.min ++ beOpt 4 s.ldu.interval.max

/-- READ SNAPSHOT: the snapshot, and the interval statistics cleared. -/
def State.readSnapshot (s : State) : Answer :=
  ⟨{ s with ldu.interval := .empty }, .done, s.snapshot⟩

/-! ### ARM CAPTURE (R161) and READ CAPTURE (R163) -/

/-- A kind filter's code 0 to 2. -/
def KindFilter.ofCode (n : Nat) : KindFilter :=
  if n = 0 then .measure else if n = 1 then .reference else .any

/-- A condition's code 0 or 1. -/
def Condition.ofCode (n : Nat) : Condition := if n = 0 then .next else .nextRejected

/-- ARM CAPTURE. -/
def State.armCapture (args : List Byte) (s : State) : Answer :=
  match slotOf (argByte args 0) with
  | .none => s.answer .range
  | .some c =>
    if 2 < argByte args 1 ∨ 1 < argByte args 2 then s.answer .range
    else
      { s with ldu.capture :=
          .armed c (.ofCode (argByte args 1)) (.ofCode (argByte args 2)) }.answer .done

/-- The segment count of a capture: the sample count over 256, rounded up. -/
def segmentCount (r : ShotRecord) : Nat := (r.sampleCount + 255) / 256

/-- The samples of a segment. -/
def segmentSamples (r : ShotRecord) (i : Nat) : List Int := (r.samples.drop (256 * i)).take 256

/-- The items of a READ CAPTURE reply (R163). -/
def captureBytes (r : ShotRecord) (o : ShotOutcome) (t : EchoTimes) (i : Nat) : List Byte :=
  be 2 i ++ be 2 (segmentCount r) ++
    be 1 ((decide (i = 0)).toNat + 2 * (decide (i + 1 = segmentCount r)).toNat) ++ r.header ++
    be 1 o.code ++ beOpt 4 t.t1 ++ beOpt 4 t.t2 ++ beOpt 4 t.transit ++
    be 2 (segmentSamples r i).length ++ sampleBytes (segmentSamples r i)

/-- READ CAPTURE. -/
def State.readCapture (args : List Byte) (s : State) : Answer :=
  match s.ldu.capture with
  | .captured r o t =>
    if segmentCount r ≤ ofBytes args then s.answer .range
    else ⟨s, .done, captureBytes r o t (ofBytes args)⟩
  | _ => s.answer .state

/-! ### The meanings -/

/-- READ_SNAPSHOT. -/
def execReadSnapshot (s : State) : Host.Outcome State Fault Refusal :=
  .next (s.event (State.takeCommand .readSnapshot (noArguments State.readSnapshot)))

/-- ARM_CAPTURE. -/
def execArmCapture (s : State) : Host.Outcome State Fault Refusal :=
  .next (s.event (State.takeCommand .armCapture (argumentsOf 3 State.armCapture)))

/-- READ_CAPTURE. -/
def execReadCapture (s : State) : Host.Outcome State Fault Refusal :=
  .next (s.event (State.takeCommand .readCapture (argumentsOf 2 State.readCapture)))

end Sys2Proof.Machine
end

