-- ==== Sys2Proof/Machine/PartCommands.lean ====
section
/-! DEFINITION. The commands on the part as a whole (sections 12.5 and 12.6): IDENTIFY, READ COUNTERS,
RESTART, and a code that names no command. -/

namespace Sys2Proof.Machine

/-- IDENTIFY, R181. -/
def State.identify (s : State) : Answer :=
  ⟨s, .done, be 1 0x49 ++ be 2 0x0208 ++ be 1 1 ++ be 1 8 ++ be 1 4 ++ be 2 4096⟩

/-! ### READ COUNTERS (R182) -/

def ALinkCounters.list (k : ALinkCounters) : List Nat :=
  [k.framesReceived, k.crcErrors, k.lengthErrors, k.unknownKinds, k.unknownChannels, k.framesSent,
   k.relayedDropped, k.lockChanges]

def MLinkCounters.list (k : MLinkCounters) : List Nat :=
  [k.framesReceived, k.crcErrors, k.lengthErrors, k.unknownKinds, k.malformedCommands,
   k.commandsOverrun, k.concentratorDropped, k.forwardedDropped, k.framesSent, k.framesAborted]

def ChannelCounters.list (k : ChannelCounters) : List Nat :=
  [k.missedShots, k.badLength, k.modeDrops, k.implausible, k.requestsIssued, k.referencesAccepted,
   k.referencesRejected, k.referencesLost, k.lateReferences, k.requestsCancelled]

def TruCounters.list (k : TruCounters) : List Nat :=
  [k.edgesCounted, k.headEndsTaken, k.tailEndsTaken, k.changesAbandoned]

def ScsCounters.list (k : ScsCounters) : List Nat :=
  [k.headEndsIgnored, k.strayTails, k.shellsOpened, k.shellsMissed, k.reportsLost,
   k.reportsReleased, k.unassignedShots]

def RpbCounters.list (k : RpbCounters) : List Nat :=
  [k.reportsFetched, k.streamsCompleted, k.framesSent]

def TbsCounters.list (k : TbsCounters) : List Nat :=
  [k.loadsTaken, k.loadsRefused, k.activationsApplied, k.activationsRefused]

def LduCounters.list (k : LduCounters) : List Nat := [k.liveQueued, k.liveOverruns, k.capturesTaken]

def EvuCounters.list (k : EvuCounters) : List Nat := [k.urgentDropped, k.routineDropped]

/-- The 121 counters in the order of R182. -/
def Counters.list (k : Counters) : List Nat :=
  k.aLink.list ++ k.mLink.list ++ (allChannels.map fun c => k.channels[c].list).flatten ++
    k.tru.list ++ k.scs.list ++ k.rpb.list ++ k.tbs.list ++ k.ldu.list ++ k.evu.list

/-- READ COUNTERS with its option byte: 0 or none to read, 1 to read and clear. -/
def State.readCounters (option : Nat) (s : State) : Answer :=
  let data := (s.counters.list.map (be 4)).flatten ++ be 6 s.tru.lengthCounter
  if 1 < option then s.answer .range
  else ⟨if option = 1 then s.tally fun _ => .zero else s, .done, data⟩

/-- READ COUNTERS carries no argument or one byte. -/
def State.readCountersCommand (c : Command) (s : State) : Answer :=
  match c.args with
  | [] => s.readCounters 0
  | [b] => s.readCounters b.toNat
  | _ => s.answer .format

/-! ### RESTART (R183) -/

/-- The event flags, counts and queues after a RESTART: cleared, the mask kept (R165). -/
def FlagState.restarted (f : FlagState) : FlagState :=
  { f with isSet := false, count := 0, latest := .none }

/-- The interval counters that a RESTART found stopped are reloaded (R42); `ran` says whether the
counters ran in the state it found. -/
def State.reloadStopped (ran : Bool) (s : State) : State :=
  if ran then s
  else forChannels (fun c s => if s.enabled c then s.reloadInterval c else s) s

/-- The part at a RESTART, block by block: R7, R9, R21, R42, R70, R90, R109, R126, R144, R164, R165
and R183. -/
def State.restart (s : State) : State :=
  let flags := allFlags.foldl
    (fun v f => v.set f.index (v[f.index]).restarted) s.evu.flags
  let fresh := { s with
    ali.outQueue := []
    etu := Vector.replicate 8 .cleared
    rfs.drainReports := 0
    scs := ⟨Vector.replicate 4 .none, 1,
      if s.tbs.activeValid then .standby else .unconfigured, false, .none⟩
    rpb := .none
    tbs.activationPending := false
    ldu := .cleared
    evu := ⟨flags, [], []⟩
    cmu := ⟨[], []⟩
    mli.relayQueue := []
    mli.forwardQueue := []
    counters := .zero }
  ((forChannels State.dropRequest fresh).reloadStopped s.intervalsRun).examine

/-- RESTART, R183: the reply's data is the mode code after it. -/
def State.restartCommand (s : State) : Answer :=
  let s := s.restart
  ⟨s, .done, be 1 s.scs.mode.code⟩

/-! ### The meanings -/

/-- IDENTIFY. -/
def execIdentify (s : State) : Host.Outcome State Fault Refusal :=
  .next (s.event (State.takeCommand .identify (noArguments State.identify)))

/-- READ_COUNTERS. -/
def execReadCounters (s : State) : Host.Outcome State Fault Refusal :=
  .next (s.event (State.takeCommand .readCounters State.readCountersCommand))

/-- RESTART. -/
def execRestart (s : State) : Host.Outcome State Fault Refusal :=
  .next (s.event (State.takeCommand .restart (noArguments State.restartCommand)))

/-- UNKNOWN_COMMAND, R180. -/
def execUnknownCommand (s : State) : Host.Outcome State Fault Refusal :=
  .next (s.event (State.takeCommand .unknownCommand fun _ s => s.answer .unknown))

end Sys2Proof.Machine
end

