-- ==== Sys2Proof/Machine/Resets.lean ====
section
/-! DEFINITION. The RESET line (R70, R184). -/

namespace Sys2Proof.Machine

/-- The part while RESET is held asserted: its hard-reset state, with the detector's departure not
yet begun, since the line is read as the reset ends (R70). The commands that wait and the line levels
are the outside world's. -/
def State.held (s : State) : State :=
  { State.afterReset s.pending s.pins with resetHeld := true, tru.debounce := .none }

/-- HARD_RESET: RESET is asserted, or power comes on (R184). -/
def execHardReset (s : State) : Host.Outcome State Fault Refusal := .next s.held

/-- RESET_RELEASE: the pulse level and the detector read their lines as the reset ends (R70). With
RESET not held there is nothing to release (log 4). -/
def execResetRelease (s : State) : Host.Outcome State Fault Refusal :=
  .next (if s.resetHeld then State.afterReset s.pending s.pins else s)

end Sys2Proof.Machine
end

