-- ==== Sys2Proof/Machine/SendEvents.lean ====
section
/-! DEFINITION. The frames that start on the two links (R31, R114, R157, R168, R176 to R179). A row
whose link cannot start a frame, or whose queue has not the turn, does not occur and is disregarded
(log 4). -/

namespace Sys2Proof.Machine

/-- SEND_REFERENCE_REQUEST. -/
def execSendReferenceRequest (s : State) : Host.Outcome State Fault Refusal :=
  .next (s.event fun s => if s.aReady then s.takeRequest else s)

/-- SEND_RELAYED_MESSAGE. -/
def execSendRelayedMessage (s : State) : Host.Outcome State Fault Refusal :=
  .next (s.event fun s => if s.aReady then s.takeRelayed else s)

/-- SEND_REPLY. -/
def execSendReply (s : State) : Host.Outcome State Fault Refusal :=
  .next (s.event State.takeReply)

/-- SEND_NOTICE. -/
def execSendNotice (s : State) : Host.Outcome State Fault Refusal :=
  .next (s.event State.takeNotice)

/-- SEND_REPORT_FRAME. -/
def execSendReportFrame (s : State) : Host.Outcome State Fault Refusal :=
  .next (s.event State.takeReportFrame)

/-- SEND_WALL_SAMPLE. -/
def execSendWallSample (s : State) : Host.Outcome State Fault Refusal :=
  .next (s.event State.takeSample)

/-- SEND_CONCENTRATOR_MESSAGE. -/
def execSendConcentratorMessage (s : State) : Host.Outcome State Fault Refusal :=
  .next (s.event State.takeRelay)

/-- SEND_FORWARDED_RECORD. -/
def execSendForwardedRecord (s : State) : Host.Outcome State Fault Refusal :=
  .next (s.event State.takeForwarded)

end Sys2Proof.Machine
end

