-- ==== Sys2Proof/Machine/ShellCommands.lean ====
section
/-! DEFINITION. The commands that act on shells, the mode and the report stream: FORCE HEAD and FORCE
TAIL (section 4.3), PARK and UNPARK (section 9.4), FETCH REPORT (section 7.2), RELEASE REPORT
(section 5.6). -/

namespace Sys2Proof.Machine

/-- FORCE HEAD, R65. -/
def State.forceHead (s : State) : Answer := s.headEnd.answer .done

/-- FORCE TAIL, R66. -/
def State.forceTail (s : State) : Answer := s.tailEnd.answer .done

/-- The reply DONE of PARK and UNPARK: the mode code and the park request after the command
(section 9.4). -/
def State.modeReply (s : State) : Answer :=
  ⟨s, .done, be 1 s.scs.mode.code ++ beBool s.scs.parkRequest⟩

/-- PARK, R149. -/
def State.park (s : State) : Answer :=
  match s.scs.mode with
  | .unconfigured => s.answer .state
  | .standby => { s with scs.parkRequest := true }.enterParking.modeReply
  | .measuring => { s with scs.parkRequest := true }.modeReply
  | .parking | .parked => s.modeReply

/-- UNPARK, R150. -/
def State.unpark (s : State) : Answer :=
  match s.scs.mode with
  | .unconfigured => s.answer .state
  | .standby => s.modeReply
  | .measuring => { s with scs.parkRequest := false }.modeReply
  | .parking =>
    ({ s with scs.parkRequest := false, scs.drainTimer := .none }.toMode .standby).modeReply
  | .parked =>
    let s := { s with scs.parkRequest := false, scs.mode := .standby }.raise .parkState .none
    s.leaveParked.examine.modeReply

/-- What R111 selects: a context, or the status that refuses the fetch. -/
inductive Selection where
  | selected (context : Fin 4)
  | refused (status : Status)
  deriving DecidableEq, Repr

/-- R111: OLDEST COMPLETE for selector 0, BY SEQUENCE otherwise. -/
def State.select (s : State) (selector sequence : Nat) : Selection :=
  if selector = 0 then
    match s.oldest Shell.isComplete with
    | .some i => .selected i
    | .none => .refused .notFound
  else
    match s.contextOf sequence with
    | .none => .refused .notFound
    | .some i => if s.holds Shell.isComplete i then .selected i else .refused .state

/-- The detail level of a code 0 to 2 (R110). -/
def Detail.ofCode (n : Nat) : Detail := if n = 0 then .summary else if n = 1 then .zones else .full

/-- A fetch whose context has been selected is taken (R112). -/
def State.startStream (sh : Shell) (d : Detail) (s : State) : Answer :=
  let s := { s with rpb := .some ⟨sh.sequence, d, sh.frameCount d, 0⟩ }
  ⟨s.tally fun k => { k with rpb.reportsFetched := inc32 k.rpb.reportsFetched }, .done,
    be 4 sh.sequence ++ be 1 d.code ++ be 2 (sh.frameCount d)⟩

/-- FETCH REPORT, R110. -/
def State.fetchReport (args : List Byte) (s : State) : Answer :=
  let selector := argByte args 0
  let detail := argByte args 5
  if 1 < selector ∨ 2 < detail then s.answer .range
  else if s.rpb.isSome then s.answer .busy
  else
    match s.select selector (ofBytes ((args.drop 1).take 4)) with
    | .refused status => s.answer status
    | .selected i =>
      match s.scs.contexts[i] with
      | .none => s.answer .notFound
      | .some sh => s.startStream sh (.ofCode detail)

/-- RELEASE REPORT, R88. -/
def State.releaseReport (args : List Byte) (s : State) : Answer :=
  match s.contextOf (ofBytes args) with
  | .none => s.answer .notFound
  | .some i =>
    if s.holds (fun sh => sh.isComplete && !s.streamed sh) i then
      ((s.freeContext i).tally fun k =>
        { k with scs.reportsReleased := inc32 k.scs.reportsReleased }).answer .done
    else s.answer .state

/-! ### The meanings -/

/-- FORCE_HEAD. -/
def execForceHead (s : State) : Host.Outcome State Fault Refusal :=
  .next (s.event (State.takeCommand .forceHead (noArguments State.forceHead)))

/-- FORCE_TAIL. -/
def execForceTail (s : State) : Host.Outcome State Fault Refusal :=
  .next (s.event (State.takeCommand .forceTail (noArguments State.forceTail)))

/-- PARK. -/
def execPark (s : State) : Host.Outcome State Fault Refusal :=
  .next (s.event (State.takeCommand .park (noArguments State.park)))

/-- UNPARK. -/
def execUnpark (s : State) : Host.Outcome State Fault Refusal :=
  .next (s.event (State.takeCommand .unpark (noArguments State.unpark)))

/-- FETCH_REPORT. -/
def execFetchReport (s : State) : Host.Outcome State Fault Refusal :=
  .next (s.event (State.takeCommand .fetchReport (argumentsOf 6 State.fetchReport)))

/-- RELEASE_REPORT. -/
def execReleaseReport (s : State) : Host.Outcome State Fault Refusal :=
  .next (s.event (State.takeCommand .releaseReport (argumentsOf 4 State.releaseReport)))

end Sys2Proof.Machine
end

