-- ==== Sys2Proof/Machine/TableCommands.lean ====
section
/-! DEFINITION. The Table Store's commands (sections 8.3 to 8.5): LOAD CHANNEL, LOAD VELOCITY, LOAD
BANK, LOAD LINE, the short form, READ TABLE, ACTIVATE, SELECT BANK. -/

namespace Sys2Proof.Machine

/-! ### Loads (R131, R132) -/

/-- A load answered DONE. -/
def State.loadTaken (s : State) : Answer :=
  (s.tally fun k => { k with tbs.loadsTaken := inc32 k.tbs.loadsTaken }).answer .done

/-- A load answered BUSY, or RANGE with the ordinal of the failing field. -/
def State.loadRefused (status : Status) (data : List Byte) (s : State) : Answer :=
  ⟨s.tally fun k => { k with tbs.loadsRefused := inc32 k.tbs.loadsRefused }, status, data⟩

/-- The checks of R131 after FORMAT, on the fields `specs` with the ties `tie`; a load that passes
writes with `write`. -/
def State.load (specs : List FieldSpec) (tie : List Int → Nat → Bool)
    (write : List Int → State → State) (args : List Byte) (s : State) : Answer :=
  let values := readFields specs args
  if s.tbs.activationPending then s.loadRefused .busy []
  else
    match firstFailure (tie values) 1 specs values with
    | .some ordinal => s.loadRefused .range (be 1 ordinal)
    | .none => (write values s).loadTaken

/-- The staged entry of the slot named by the first field takes a value. -/
def State.stageChannel (slot : Nat) (e : Option ChannelEntry) (s : State) : State :=
  { s with tbs.staged.channels := s.tbs.staged.channels.set (Fin.ofNat 8 slot) e }

/-- The staged velocity table of an identifier takes a value. -/
def State.stageVelocity (identifier : Nat) (t : Option VelocityTable) (s : State) : State :=
  { s with tbs.staged.velocities := s.tbs.staged.velocities.set (Fin.ofNat 4 identifier) t }

/-- The staged product bank of an identifier takes a value. -/
def State.stageBank (identifier : Nat) (b : Option ProductBank) (s : State) : State :=
  { s with tbs.staged.banks := s.tbs.staged.banks.set (Fin.ofNat 4 identifier) b }

/-- The staged line setup takes a value. -/
def State.stageLine (l : Option LineSetup) (s : State) : State := { s with tbs.staged.line := l }

/-- LOAD CHANNEL, full form (R127, R131). -/
def State.loadChannel (c : Command) (s : State) : Answer :=
  argumentsOf (fieldsLength channelSpecs)
    (State.load channelSpecs channelTie fun v s =>
      s.stageChannel (natField v 1) (.some (channelOfFields v))) c s

/-- LOAD VELOCITY, full form: 2 + 4n bytes, n the point count carried in the second byte (R128,
R131). -/
def State.loadVelocity (c : Command) (s : State) : Answer :=
  let specs := velocitySpecs (argByte c.args 1)
  if 2 ≤ c.args.length then
    argumentsOf (fieldsLength specs)
      (State.load specs velocityTie fun v s =>
        s.stageVelocity (natField v 1) (.some (velocityOfFields v))) c s
  else s.answer .format

/-- LOAD BANK, full form (R129, R131). -/
def State.loadBank (c : Command) (s : State) : Answer :=
  argumentsOf (fieldsLength bankSpecs)
    (State.load bankSpecs bankTie fun v s =>
      s.stageBank (natField v 1) (.some (bankOfFields v))) c s

/-- LOAD LINE, full form (R130, R131). -/
def State.loadLine (c : Command) (s : State) : Answer :=
  argumentsOf (fieldsLength lineSpecs)
    (State.load lineSpecs (fun _ _ => true) fun v s => s.stageLine (.some (lineOfFields v))) c s

/-- The short form of a load: BUSY, RANGE with ordinal 1, or the staged entry becomes not present
(R132). -/
def State.loadShortForm (c : Command) (s : State) : Answer :=
  let none := fun (_ : List Int) (_ : Nat) => true
  match c.code.toNat with
  | 0x02 => s.load [field 1 0 7] none (fun v s => s.stageChannel (natField v 1) .none) c.args
  | 0x03 => s.load [field 1 0 3] none (fun v s => s.stageVelocity (natField v 1) .none) c.args
  | 0x04 => s.load [field 1 0 3] none (fun v s => s.stageBank (natField v 1) .none) c.args
  | _ => s.load [] none (fun _ s => s.stageLine .none) c.args

/-! ### READ TABLE (R133) -/

/-- The bytes of an entry of a set: its fields in the order and widths of its full form, absent for
an entry not present. -/
def TableSet.entryBytes (t : TableSet) (kind index : Nat) : Option (List Byte) :=
  match kind with
  | 0 => t.channels[Fin.ofNat 8 index].map fun e => writeFields channelSpecs (e.fields index)
  | 1 => t.velocities[Fin.ofNat 4 index].map fun v =>
      writeFields (velocitySpecs v.points.length) (v.fields index)
  | 2 => t.banks[Fin.ofNat 4 index].map fun b => writeFields bankSpecs (b.fields index)
  | _ => t.line.map fun l => writeFields lineSpecs l.fields

/-- The ranges of READ TABLE's arguments; the index is ignored for the line setup. -/
def readTableInRange (set kind index : Nat) : Bool :=
  set ≤ 1 &&
    match kind with
    | 0 => index ≤ 7
    | 1 | 2 => index ≤ 3
    | 3 => true
    | _ => false

/-- READ TABLE. -/
def State.readTable (args : List Byte) (s : State) : Answer :=
  let set := argByte args 0
  let kind := argByte args 1
  let index := argByte args 2
  if readTableInRange set kind index then
    let entry := (if set = 0 then s.tbs.staged else s.tbs.active).entryBytes kind index
    ⟨s, .done, be 1 set ++ be 1 kind ++ be 1 index ++ be 4 s.tbs.generation ++
      beBool s.tbs.activationPending ++ beBool entry.isSome ++ entry.getD []⟩
  else s.answer .range

/-! ### ACTIVATE (R134, R135) and SELECT BANK (R142) -/

/-- The channel entry of a slot is enabled and names a velocity table that is not present (R134). -/
def TableSet.lacksVelocity (t : TableSet) (c : Fin 8) : Bool :=
  (enabledEntry t.channels[c]).any fun e => ((t.velocities[e.velocityTable]?).join).isNone

/-- The checks of R134 in order: the reason code and the channel of the first that fails. -/
def TableSet.inconsistency (t : TableSet) : Option (Nat × Nat) :=
  if t.line.isNone then .some (1, 255)
  else if allChannels.all fun c => (enabledEntry t.channels[c]).isNone then .some (2, 255)
  else (allChannels.find? t.lacksVelocity).map fun c => (3, c.val)

/-- ACTIVATE. -/
def State.activate (s : State) : Answer :=
  if s.tbs.activationPending then s.answer .busy
  else
    match s.tbs.staged.inconsistency with
    | .some (reason, channel) =>
      ⟨s.tally fun k => { k with tbs.activationsRefused := inc32 k.tbs.activationsRefused },
        .inconsistent, be 1 reason ++ be 1 channel⟩
    | .none =>
      if s.gauging then
        ⟨{ s with tbs.activationPending := true }, .done, be 1 0 ++ be 4 s.tbs.generation⟩
      else
        let s := s.applyActivation
        ⟨s, .done, be 1 1 ++ be 4 s.tbs.generation⟩

/-- SELECT BANK. -/
def State.selectBank (args : List Byte) (s : State) : Answer :=
  if h : argByte args 0 < 4 then
    { s with tbs.selectedBank := ⟨argByte args 0, h⟩ }.answer .done
  else s.answer .range

/-! ### The meanings -/

/-- LOAD_CHANNEL. -/
def execLoadChannel (s : State) : Host.Outcome State Fault Refusal :=
  .next (s.event (State.takeCommand .loadChannel State.loadChannel))

/-- LOAD_VELOCITY. -/
def execLoadVelocity (s : State) : Host.Outcome State Fault Refusal :=
  .next (s.event (State.takeCommand .loadVelocity State.loadVelocity))

/-- LOAD_BANK. -/
def execLoadBank (s : State) : Host.Outcome State Fault Refusal :=
  .next (s.event (State.takeCommand .loadBank State.loadBank))

/-- LOAD_LINE. -/
def execLoadLine (s : State) : Host.Outcome State Fault Refusal :=
  .next (s.event (State.takeCommand .loadLine State.loadLine))

/-- LOAD_SHORT_FORM. -/
def execLoadShortForm (s : State) : Host.Outcome State Fault Refusal :=
  .next (s.event (State.takeCommand .loadShortForm State.loadShortForm))

/-- READ_TABLE. -/
def execReadTable (s : State) : Host.Outcome State Fault Refusal :=
  .next (s.event (State.takeCommand .readTable (argumentsOf 3 State.readTable)))

/-- ACTIVATE. -/
def execActivate (s : State) : Host.Outcome State Fault Refusal :=
  .next (s.event (State.takeCommand .activate (noArguments State.activate)))

/-- SELECT_BANK. -/
def execSelectBank (s : State) : Host.Outcome State Fault Refusal :=
  .next (s.event (State.takeCommand .selectBank (argumentsOf 1 State.selectBank)))

end Sys2Proof.Machine
end

