-- ==== Sys2Proof/Machine/TimerEvents.lean ====
section
/-! DEFINITION. The expiries of the millisecond counters (R27, R35, R81, R83, R152) and the RFS's
drained report (R151). A row is the occurrence of its expiry (log 3); one whose counter is absent, or
stopped, does not occur and is disregarded (log 4). -/

namespace Sys2Proof.Machine

/-- A channel's interval counter expires, R27: the counter is reloaded, the backlog increments,
saturating at 15, and the channels are examined. -/
def State.intervalOut (c : Fin 8) (s : State) : State :=
  if (s.ref c).interval.isSome && s.intervalsRun then
    let s := s.reloadInterval c
    (s.setBacklog c (min ((s.ref c).backlog + 1) backlogMax)).examine
  else s

/-- The channel's request is SENT (R28). -/
def RfsChannel.isSent (r : RfsChannel) : Bool :=
  match r.request with
  | .some ⟨_, .sent _⟩ => true
  | _ => false

/-- A SENT request's timeout expires, R35. -/
def State.requestOut (c : Fin 8) (s : State) : State :=
  if (s.ref c).isSent then
    let s := (s.dropRequest c).raise .referenceLost .none
    (s.tallyChannel c fun k => { k with referencesLost := inc32 k.referencesLost }).examine
  else s

/-- An OPEN context reaches its dwell limit, R81. -/
def State.dwellOut (i : Fin 4) (s : State) : State :=
  if s.holds Shell.isOpen i then (s.enterClosing i fun r => { r with dwell := true }).boundary
  else s

/-- A CLOSING context's tail timeout expires, R83. -/
def State.tailOut (i : Fin 4) (s : State) : State :=
  if s.holds Shell.isClosing i then (s.complete i fun r => { r with tailStalled := true }).boundary
  else s

/-- The park drain limit expires, R152. -/
def State.drainOut (s : State) : State :=
  if s.scs.drainTimer.isSome ∧ s.scs.mode = .parking then
    s.enterParked.raise .parkIncomplete .none
  else s

/-- The SCS takes a drained report, R151: in any mode but PARKING it is disregarded. -/
def State.takeDrainedReport (s : State) : State :=
  if 0 < s.rfs.drainReports then
    let s := { s with rfs.drainReports := s.rfs.drainReports - 1 }
    if s.scs.mode = .parking then s.enterParked else s
  else s

/-! ### The meanings -/

/-- REFERENCE_INTERVAL_EXPIRY. -/
def execReferenceIntervalExpiry (c : Fin 8) (s : State) : Host.Outcome State Fault Refusal :=
  .next (s.event (State.intervalOut c))

/-- REFERENCE_TIMEOUT. -/
def execReferenceTimeout (c : Fin 8) (s : State) : Host.Outcome State Fault Refusal :=
  .next (s.event (State.requestOut c))

/-- DWELL_LIMIT. -/
def execDwellLimit (i : Fin 4) (s : State) : Host.Outcome State Fault Refusal :=
  .next (s.event (State.dwellOut i))

/-- TAIL_TIMEOUT. -/
def execTailTimeout (i : Fin 4) (s : State) : Host.Outcome State Fault Refusal :=
  .next (s.event (State.tailOut i))

/-- PARK_DRAIN_LIMIT. -/
def execParkDrainLimit (s : State) : Host.Outcome State Fault Refusal :=
  .next (s.event State.drainOut)

/-- DRAINED_REPORT. -/
def execDrainedReport (s : State) : Host.Outcome State Fault Refusal :=
  .next (s.event State.takeDrainedReport)

end Sys2Proof.Machine
end

