-- ==== Sys2Proof/Machine/Dispatch.lean ====
section
/-! DEFINITION. The dispatch: one arm per row of the table, each one direct call of its meaning. -/

namespace Sys2Proof.Machine

def exec (i : Instr) (s : State) : Host.Outcome State Fault Refusal :=
  match i with
  | .shotRecord frame => Sys2Proof.Machine.execShotRecord frame s
  | .concentratorMessage frame => Sys2Proof.Machine.execConcentratorMessage frame s
  | .relayMessage frame => Sys2Proof.Machine.execRelayMessage frame s
  | .commandFrame frame => Sys2Proof.Machine.execCommandFrame frame s
  | .pulseEdge high => Sys2Proof.Machine.execPulseEdge high s
  | .shellDetectChange high => Sys2Proof.Machine.execShellDetectChange high s
  | .debounceExpiry => Sys2Proof.Machine.execDebounceExpiry s
  | .referenceIntervalExpiry channel => Sys2Proof.Machine.execReferenceIntervalExpiry channel s
  | .referenceTimeout channel => Sys2Proof.Machine.execReferenceTimeout channel s
  | .dwellLimit context => Sys2Proof.Machine.execDwellLimit context s
  | .tailTimeout context => Sys2Proof.Machine.execTailTimeout context s
  | .parkDrainLimit => Sys2Proof.Machine.execParkDrainLimit s
  | .drainedReport => Sys2Proof.Machine.execDrainedReport s
  | .aLinkLockLost partlyReceived => Sys2Proof.Machine.execALinkLockLost partlyReceived s
  | .aLinkLockGained => Sys2Proof.Machine.execALinkLockGained s
  | .mLinkLockLost partlyReceived => Sys2Proof.Machine.execMLinkLockLost partlyReceived s
  | .mLinkLockGained => Sys2Proof.Machine.execMLinkLockGained s
  | .sendReferenceRequest => Sys2Proof.Machine.execSendReferenceRequest s
  | .sendRelayedMessage => Sys2Proof.Machine.execSendRelayedMessage s
  | .sendReply => Sys2Proof.Machine.execSendReply s
  | .sendNotice => Sys2Proof.Machine.execSendNotice s
  | .sendReportFrame => Sys2Proof.Machine.execSendReportFrame s
  | .sendWallSample => Sys2Proof.Machine.execSendWallSample s
  | .sendConcentratorMessage => Sys2Proof.Machine.execSendConcentratorMessage s
  | .sendForwardedRecord => Sys2Proof.Machine.execSendForwardedRecord s
  | .hardReset => Sys2Proof.Machine.execHardReset s
  | .identify => Sys2Proof.Machine.execIdentify s
  | .loadChannel => Sys2Proof.Machine.execLoadChannel s
  | .loadVelocity => Sys2Proof.Machine.execLoadVelocity s
  | .loadBank => Sys2Proof.Machine.execLoadBank s
  | .loadLine => Sys2Proof.Machine.execLoadLine s
  | .loadShortForm => Sys2Proof.Machine.execLoadShortForm s
  | .readTable => Sys2Proof.Machine.execReadTable s
  | .activate => Sys2Proof.Machine.execActivate s
  | .selectBank => Sys2Proof.Machine.execSelectBank s
  | .forceHead => Sys2Proof.Machine.execForceHead s
  | .forceTail => Sys2Proof.Machine.execForceTail s
  | .park => Sys2Proof.Machine.execPark s
  | .unpark => Sys2Proof.Machine.execUnpark s
  | .fetchReport => Sys2Proof.Machine.execFetchReport s
  | .releaseReport => Sys2Proof.Machine.execReleaseReport s
  | .readSnapshot => Sys2Proof.Machine.execReadSnapshot s
  | .armCapture => Sys2Proof.Machine.execArmCapture s
  | .readCapture => Sys2Proof.Machine.execReadCapture s
  | .readEvents => Sys2Proof.Machine.execReadEvents s
  | .clearEvents => Sys2Proof.Machine.execClearEvents s
  | .setEventMask => Sys2Proof.Machine.execSetEventMask s
  | .readCounters => Sys2Proof.Machine.execReadCounters s
  | .restart => Sys2Proof.Machine.execRestart s
  | .unknownCommand => Sys2Proof.Machine.execUnknownCommand s
  | .linkFrameDiscarded link frame => Sys2Proof.Machine.execLinkFrameDiscarded link frame s
  | .frameSendComplete link => Sys2Proof.Machine.execFrameSendComplete link s
  | .resetRelease => Sys2Proof.Machine.execResetRelease s

end Sys2Proof.Machine
end

