-- ==== Sys2Proof/Machine/Timebase.lean ====
section
/-! DEFINITION. What the part does when no command waits (DESIGN CHOICE, logs 1 and 2): its own next
act, each of which is a row of the table, and, when none is left, one mark of the 1 ms timebase. -/

namespace Sys2Proof.Machine

/-! ### The part's own acts -/

/-- The counter of a channel stands at its expiry (R26, R27). -/
def State.intervalDue (s : State) (c : Fin 8) : Bool :=
  decide ((s.ref c).interval = .some 0) && s.intervalsRun

/-- The channel's SENT request stands at its timeout (R31, R35). -/
def State.requestDue (s : State) (c : Fin 8) : Bool :=
  match (s.ref c).request with
  | .some ⟨_, .sent 0⟩ => true
  | _ => false

/-- The context has reached its dwell limit, dwell limit × 1000 ms (R81). -/
def State.dwellDue (s : State) (i : Fin 4) : Bool :=
  s.holds (fun sh => match sh.phase with
    | .opened openTime => decide (s.lineField (·.dwellLimit) * 1000 ≤ openTime)
    | _ => false) i

/-- The context's tail timer has reached 0 (R79, R83). -/
def State.tailDue (s : State) (i : Fin 4) : Bool :=
  s.holds (fun sh => match sh.phase with
    | .closing _ 0 _ => true
    | _ => false) i

/-- The expiry that is due, in the order of log 2. -/
def State.dueExpiry (s : State) : Option Instr :=
  ((allChannels.find? s.intervalDue).map Instr.referenceIntervalExpiry).or <|
  ((allChannels.find? s.requestDue).map Instr.referenceTimeout).or <|
  ((allContexts.find? s.dwellDue).map Instr.dwellLimit).or <|
  ((allContexts.find? s.tailDue).map Instr.tailTimeout).or <|
  if s.scs.drainTimer = Option.some 0 then Option.some Instr.parkDrainLimit else Option.none

/-- The command the CMU can take: the oldest, while the reply queue has a free place (R180). -/
def State.dueCommand (s : State) : Option Instr :=
  if s.cmu.replies.length < Config.replyPlaces then s.cmu.commands.head?.map Command.row else .none

/-- The A-link's next act: the frame being sent ends, or the sender takes one (R177). -/
def State.dueA (s : State) : Option Instr :=
  if s.ali.sending.isSome then .some (.frameSendComplete .aLink)
  else if s.ali.inLock then
    if s.ali.outQueue.any AOut.isRequest then .some .sendReferenceRequest
    else if s.ali.outQueue.isEmpty then .none
    else .some .sendRelayedMessage
  else .none

/-- The row that sends a class of R179. -/
def MClass.row : MClass → Instr
  | .reply => .sendReply
  | .urgent | .routine => .sendNotice
  | .report => .sendReportFrame
  | .live => .sendWallSample
  | .relay => .sendConcentratorMessage
  | .forward => .sendForwardedRecord

/-- The M-link's next act: the frame being sent ends, or the arbiter takes one (R179). -/
def State.dueM (s : State) : Option Instr :=
  if s.mli.sending.isSome then .some (.frameSendComplete .mLink)
  else if s.mli.inLock then s.mClass.map MClass.row
  else .none

/-- A drained report that the SCS has not yet taken (R151). -/
def State.dueReport (s : State) : Option Instr :=
  if 0 < s.rfs.drainReports then .some .drainedReport else .none

/-- The part's own next act, in the order of log 2: none while RESET is held. -/
def State.ownAct (s : State) : Option Instr :=
  if s.resetHeld then .none
  else s.dueExpiry.or (s.dueReport.or (s.dueCommand.or (s.dueA.or s.dueM)))

/-! ### The millisecond mark -/

/-- A channel's counters at a mark: the interval counter while it runs (R26), and the timeout of a
SENT request (R31). -/
def RfsChannel.mark (run : Bool) (r : RfsChannel) : RfsChannel where
  refState := r.refState
  backlog := r.backlog
  interval := if run then r.interval.map (· - 1) else r.interval
  request := r.request.map fun q =>
    match q.phase with
    | .queued => q
    | .sent timeout => { q with phase := .sent (timeout - 1) }

/-- A context's clocks at a mark: the open time while OPEN (R81), the tail timer while CLOSING (R79). -/
def Shell.mark (sh : Shell) : Shell :=
  match sh.phase with
  | .opened openTime => { sh with phase := .opened (openTime + 1) }
  | .closing tailMark timer completion => { sh with phase := .closing tailMark (timer - 1) completion }
  | .complete _ => sh

/-- One mark of the timebase: every counter that runs counts, the debounce timer while the two levels
differ (R62 step 2), and the detector's change, when it is due, waits as the next command. A counter
that this takes to its end is due from now on. -/
def State.millisecond (s : State) : State :=
  if s.resetHeld then s
  else
    let run := s.intervalsRun
    let due := s.debounceDue
    let apart := decide (s.rawLevel ≠ s.tru.detectorLevel)
    let s := forChannels (fun c s => s.rfsChannel c (RfsChannel.mark run)) s
    let s := allContexts.foldl (fun s i => s.shellAt i Shell.mark) s
    { s with
      pending := if due then s.pending ++ [Instr.debounceExpiry] else s.pending
      scs.drainTimer := s.scs.drainTimer.map (· - 1)
      tru.debounce := if apart then s.tru.debounce.map (· - 1) else s.tru.debounce }

end Sys2Proof.Machine
end

