-- ==== Sys2Proof/Machine/Step.lean ====
section
/-! DEFINITION. One step of the machine. -/

namespace Sys2Proof.Machine

/-- The command at the front of the queue is taken, with the queue's rest. On an empty queue the part
does its own next act, or, when it has none, one millisecond mark passes (DESIGN CHOICE, log 1). -/
def step (s : State) : Host.Outcome State Fault Refusal :=
  match s.pending with
  | c :: rest => exec c { s with pending := rest }
  | [] =>
    match s.ownAct with
    | .some c => exec c s
    | .none => .next s.millisecond

/-- The command a word spells, put at the front of the queue. -/
def State.withFetchWord (s : State) (nbits w : Nat) : State :=
  match decodeTableWord nbits w with
  | .some c => { s with pending := c :: s.pending }
  | .none => s

end Sys2Proof.Machine
end

