-- ==== Sys2Proof/Safety.lean ====
section
/-! DEFINITION. What a safe run keeps: the invariants the rules promise of every state, in the terms
the statements use, and the premises the commands share. -/

namespace Sys2Proof.Machine

/-! ### Invariants -/

/-- Every queue is within its capacity (R156, R167, R176 to R178, R180). -/
def State.QueuesFit (s : State) : Prop :=
  s.cmu.commands.length ≤ Config.commandPlaces ∧ s.cmu.replies.length ≤ Config.replyPlaces ∧
  s.ali.outQueue.length ≤ Config.aOutPlaces ∧ s.mli.relayQueue.length ≤ Config.relayPlaces ∧
  s.mli.forwardQueue.length ≤ Config.forwardPlaces ∧ s.ldu.liveQueue.length ≤ Config.livePlaces ∧
  s.evu.urgent.length ≤ Config.noticePlaces ∧ s.evu.routine.length ≤ Config.noticePlaces

/-- Every channel's backlog lies from 0 to 15 (R24). -/
def State.BacklogsInRange (s : State) : Prop := ∀ c : Fin 8, s.rfs.channels[c].backlog ≤ backlogMax

/-- At most one context is OPEN (R77). -/
def State.OneOpen (s : State) : Prop :=
  ∀ i j : Fin 4, s.holds Shell.isOpen i → s.holds Shell.isOpen j → i = j

/-- The mode is MEASURING exactly while some context is OPEN or CLOSING, and no activation is pending
outside it (R145). -/
def State.ModeAgrees (s : State) : Prop :=
  (s.scs.mode = .measuring ↔ s.gauging = true) ∧
  (s.tbs.activationPending = true → s.gauging = true)

/-- The drain timer is present while the mode is PARKING and absent in every other mode, and the park
request is set in PARKING and PARKED and clear in UNCONFIGURED and STANDBY (R144). -/
def State.ParkAgrees (s : State) : Prop :=
  (s.scs.drainTimer.isSome = true ↔ s.scs.mode = .parking) ∧
  (s.scs.mode = .parking ∨ s.scs.mode = .parked → s.scs.parkRequest = true) ∧
  (s.scs.mode = .unconfigured ∨ s.scs.mode = .standby → s.scs.parkRequest = false)

/-- The sequence numbers of the contexts that are not FREE are distinct, from 1 to 4294967295, and
below the next-sequence counter until it is exhausted (R72). -/
def State.SequencesOrdered (s : State) : Prop :=
  s.scs.nextSequence ≤ max32 ∧
  (∀ (i : Fin 4) (sh : Shell), s.scs.contexts[i] = .some sh →
    1 ≤ sh.sequence ∧ sh.sequence ≤ max32 ∧
    (s.scs.nextSequence ≠ 0 → sh.sequence < s.scs.nextSequence)) ∧
  ∀ (i j : Fin 4) (a b : Shell), s.scs.contexts[i] = .some a → s.scs.contexts[j] = .some b →
    a.sequence = b.sequence → i = j

/-- An excursion list holds at most 32 entries in nondecreasing order of start position (R103). -/
def Shell.ListOrdered (sh : Shell) : Prop :=
  sh.excursions.length ≤ Config.excursionPlaces ∧
  sh.excursions.Pairwise fun a b => a.startPos ≤ b.startPos

/-- Every context's excursion list is ordered (R103). -/
def State.ListsOrdered (s : State) : Prop :=
  ∀ (i : Fin 4) (sh : Shell), s.scs.contexts[i] = .some sh → sh.ListOrdered

/-- What R94 to R97 give of one cell, with the limits of plausibility: an empty cell holds nothing,
and the sum of a cell that holds a shot lies from count × minimum to count × maximum. -/
def Cell.Sound (low high : Nat) (cell : Cell) : Prop :=
  cell.count ≤ cellLimit ∧
  (cell.count = 0 → cell = .empty) ∧
  (cell.count ≠ 0 → ∃ a b, cell.min = .some a ∧ cell.max = .some b ∧ low ≤ a ∧ b ≤ high ∧
    cell.count * a ≤ cell.sum ∧ cell.sum ≤ cell.count * b)

/-- The wall map has 128 zones of as many cells as the bank copy has sectors (R91), each sound. -/
def Shell.MapSound (sh : Shell) : Prop :=
  sh.map.length = Config.zones ∧
  ∀ row ∈ sh.map, row.length = sh.bank.sectors ∧
    ∀ cell ∈ row, cell.Sound sh.bank.plausibleMin sh.bank.plausibleMax

/-- Every context's wall map is sound. -/
def State.MapsSound (s : State) : Prop :=
  ∀ (i : Fin 4) (sh : Shell), s.scs.contexts[i] = .some sh → sh.MapSound

/-- A channel that is not enabled has no reference state, backlog 0, no counter and no outstanding
request; an enabled one has a reference state and a counter (R22, R24, R26, R29). -/
def State.ReferencesFollow (s : State) : Prop :=
  ∀ c : Fin 8, if s.enabled c then
      s.rfs.channels[c].refState.isSome = true ∧ s.rfs.channels[c].interval.isSome = true
    else s.rfs.channels[c] = .off

/-- The A-out queue holds exactly the frames of the QUEUED requests, each once (R28, R36, R177). -/
def State.RequestsQueued (s : State) : Prop :=
  ∀ (c : Fin 8) (tag : Nat), s.ali.outQueue.count (.request c tag) =
    if s.rfs.channels[c].request = .some ⟨tag, .queued⟩ then 1 else 0

/-- The number of shots the cells of a map count. -/
def mapCount (map : List (List Cell)) : Nat := (map.map fun row => (row.map (·.count)).sum).sum

/-! ### Premises -/

/-- The Command Unit can take the command `c`, with `rest` behind it: it is the oldest, the reply
queue has a free place, and RESET is not held (R180, R184). -/
def State.Waits (s : State) (c : Command) (rest : List Command) : Prop :=
  s.resetHeld = false ∧ s.cmu.commands = c :: rest ∧ s.cmu.replies.length < Config.replyPlaces

/-- The state with the command taken and its reply queued (R180). -/
def State.replied (s : State) (c : Command) (rest : List Command) (status : Status)
    (data : List Byte) : State :=
  { s with cmu := ⟨rest, s.cmu.replies ++ [⟨c.tag, c.code, status, data⟩]⟩ }

/-- The argument lengths a command accepts; a code that names no command has none to fail (section
12.5, R131, R132). -/
def Command.lengthFits (c : Command) : Bool :=
  let n := c.args.length
  match c.code.toNat with
  | 0x01 | 0x07 | 0x09 | 0x0A | 0x0B | 0x0C | 0x0F | 0x12 | 0x16 => n == 0
  | 0x02 => n == 44 || n == 1
  | 0x03 => (2 ≤ n && n == 2 + 4 * argByte c.args 1) || n == 1
  | 0x04 => n == 34 || n == 1
  | 0x05 => n == 20 || n == 0
  | 0x06 | 0x10 | 0x13 | 0x14 => n == 3
  | 0x08 => n == 1
  | 0x0D => n == 6
  | 0x0E => n == 4
  | 0x11 => n == 2
  | 0x15 => n ≤ 1
  | _ => true

/-- No channel meets every condition of R29, so no request is owed. -/
def State.NoneOwed (s : State) : Prop := ∀ c : Fin 8, s.mayIssue c = false

/-- A head-end reaches the SCS by a row, from the detector (R62, R63) or by FORCE HEAD (R65); `u` is
the state with what the row does besides: the detector's change taken and counted, or the reply
queued. -/
def State.HeadEndFrom (s : State) (row : Instr) (u : State) : Prop :=
  row = .debounceExpiry ∧ s.resetHeld = false ∧ s.tru.debounce = .some 0 ∧ s.rawLevel = .active ∧
    s.tru.detectorLevel = .inactive ∧
    u = { s with
      tru := { s.tru with detectorLevel := .active, debounce := .none }
      counters.tru.headEndsTaken := inc32 s.counters.tru.headEndsTaken } ∨
  row = .forceHead ∧ ∃ c rest, s.Waits c rest ∧ c.code = 0x09 ∧ c.args = [] ∧
    u = s.replied c rest .done []

/-- A tail-end reaches the SCS by a row, from the detector (R62, R63) or by FORCE TAIL (R66); `u` as
for a head-end. -/
def State.TailEndFrom (s : State) (row : Instr) (u : State) : Prop :=
  row = .debounceExpiry ∧ s.resetHeld = false ∧ s.tru.debounce = .some 0 ∧ s.rawLevel = .inactive ∧
    s.tru.detectorLevel = .active ∧
    u = { s with
      tru := { s.tru with detectorLevel := .inactive, debounce := .none }
      counters.tru.tailEndsTaken := inc32 s.counters.tru.tailEndsTaken } ∨
  row = .forceTail ∧ ∃ c rest, s.Waits c rest ∧ c.code = 0x0A ∧ c.args = [] ∧
    u = s.replied c rest .done []

/-- A shell as R77, R91 and R108 fill it: OPEN since 0 ms, with the given number, generation, bank
copy and head mark, and everything else empty. -/
def Shell.Fresh (sh : Shell) (sequence generation : Nat) (bank : ProductBank) (headMark : Nat) :
    Prop :=
  sh.phase = .opened 0 ∧ sh.sequence = sequence ∧ sh.generation = generation ∧ sh.bank = bank ∧
  sh.headMark = headMark ∧ sh.irregular = ⟨false, false, false, false, false⟩ ∧ sh.accepted = 0 ∧
  sh.wallMin = .none ∧ sh.wallMax = .none ∧ sh.wallSum = 0 ∧ sh.stale = 0 ∧
  sh.rejects = ⟨0, 0, 0, 0, 0, 0⟩ ∧ sh.missed = 0 ∧ sh.beyondMap = 0 ∧ sh.spill = 0 ∧
  sh.map = List.replicate 128 (List.replicate bank.sectors ⟨0, .none, .none, 0⟩) ∧
  sh.runs = Vector.replicate 8 .none ∧ sh.excursions = [] ∧ sh.overflow = 0

/-- The blocks that no shell boundary and no reference changes: the queue of commands, RESET, the
lines, the report cursor, the live data, the Command Unit and the M-link. -/
def State.SameOutside (s t : State) : Prop :=
  t.pending = s.pending ∧ t.resetHeld = s.resetHeld ∧ t.pins = s.pins ∧ t.rpb = s.rpb ∧
  t.ldu = s.ldu ∧ t.cmu = s.cmu ∧ t.mli = s.mli

/-- Nothing of the references changes but that channels without a request may be issued one, which is
then QUEUED (R30). -/
def State.OnlyIssues (s t : State) : Prop :=
  ∀ c : Fin 8, t.rfs.channels[c].backlog = s.rfs.channels[c].backlog ∧
    t.rfs.channels[c].refState = s.rfs.channels[c].refState ∧
    t.rfs.channels[c].interval = s.rfs.channels[c].interval ∧
    (t.rfs.channels[c].request = s.rfs.channels[c].request ∨
      s.rfs.channels[c].request = .none ∧
        ∃ tag, t.rfs.channels[c].request = .some ⟨tag, .queued⟩)

/-- A channel's request stands as it was, or is issued where there was none (R30). -/
def IssuedOver (old new : Option Request) : Prop :=
  new = old ∨ old = .none ∧ ∃ tag, new = .some ⟨tag, .queued⟩

/-- The occurrences of a flag's cause that carry the numbers of a list, in its order (R166). -/
def FlagState.occurEach (f : FlagState) (numbers : List Nat) : FlagState :=
  numbers.foldl (fun f q => f.occur (.some q)) f

/-- The list holds the sequence numbers of the contexts whose shell has `p`, oldest first (R72). -/
def State.OldestFirst (s : State) (p : Shell → Bool) (numbers : List Nat) : Prop :=
  numbers.Pairwise (· < ·) ∧ ∀ q, q ∈ numbers ↔
    ∃ (i : Fin 4) (sh : Shell), s.scs.contexts[i] = .some sh ∧ p sh = true ∧ sh.sequence = q

/-- The tables once the staged set has replaced the active set (R137 steps 1 to 4, R138). -/
def Tbs.applied (b : Tbs) : Tbs :=
  { b with
    active := b.staged, activeValid := true, activationPending := false
    generation := if b.generation = 4294967295 then 1 else b.generation + 1 }

/-- What the application of the staged set in `s` makes of each channel (R139): of its references
(R36, R38), its place in the ETU (R7, R21) and its count of requests cancelled. -/
def State.ChannelsFollow (s t : State) : Prop :=
  ∀ i : Fin 8,
    let q := s.rfs.channels[i]
    let r := t.rfs.channels[i]
    let forgotten := { s.etu[i] with prevSeq := .none, heldTemp := .none, holdAge := 0 }
    let count := s.counters.channels[i].requestsCancelled
    let after := t.counters.channels[i].requestsCancelled
    match enabledEntry s.tbs.active.channels[i], enabledEntry s.tbs.staged.channels[i] with
    | .none, .none => r = q ∧ t.etu[i] = s.etu[i] ∧ after = count
    | .some _, .none => r = ⟨.none, 0, .none, .none⟩ ∧ t.etu[i] = forgotten ∧
      after = if q.request.isSome then inc32 count else count
    | .none, .some e => r.backlog = 8 ∧ r.refState = .some ⟨e.rnom, true⟩ ∧
      r.interval = .some e.refInterval ∧ IssuedOver q.request r.request ∧ t.etu[i] = forgotten ∧
      after = count
    | .some a, .some b => t.etu[i] = s.etu[i] ∧
      if a.referenceParameters = b.referenceParameters then
        r.backlog = q.backlog ∧ r.refState = q.refState ∧ IssuedOver q.request r.request ∧
        r.interval = (if a.refInterval = b.refInterval then q.interval else .some b.refInterval) ∧
        after = count
      else
        r.backlog = 8 ∧ r.refState = .some ⟨b.rnom, true⟩ ∧ r.interval = .some b.refInterval ∧
        IssuedOver .none r.request ∧ after = if q.request.isSome then inc32 count else count

/-- The Tracking Unit in `t`, after an event that found it as `d` under the line setup `before`: a
change of polarity, which the first activation counts as, makes a present timer absent and starts a
departure through the new polarity with the new debounce; anything else leaves it (R60, R64). -/
def State.DetectorFollows (t : State) (before : Option LineSetup) (d : Tru) : Prop :=
  t.tru =
    { d with
      debounce :=
        if before.map (·.polarity) = t.tbs.active.line.map (·.polarity) then d.debounce
        else if t.rawLevel = d.detectorLevel then .none
        else .some (t.lineField (·.debounce)) }

/-- The shell boundary of R84, outside a head-end, that takes `s` from MEASURING with its contexts
become `contexts` and its Tracking Unit `d`: a pending activation is applied (R136), and then the mode
becomes PARKING with the drain timer loaded when the park request is set, STANDBY otherwise (R148). -/
def State.BoundaryTo (s : State) (contexts : Vector (Option Shell) 4) (d : Tru) (t : State) : Prop :=
  t.tbs = (if s.tbs.activationPending then s.tbs.applied else s.tbs) ∧
  t.scs =
    { s.scs with
      contexts := contexts
      mode := if s.scs.parkRequest then .parking else .standby
      drainTimer := if s.scs.parkRequest then
          .some ((t.tbs.active.line.map (·.parkDrainLimit)).getD 0)
        else s.scs.drainTimer } ∧
  (if s.tbs.activationPending then s.ChannelsFollow t
    else s.OnlyIssues t ∧ t.etu = s.etu ∧
      ∀ i : Fin 8, t.counters.channels[i].requestsCancelled =
        s.counters.channels[i].requestsCancelled) ∧
  t.DetectorFollows s.tbs.active.line d ∧
  t.flag .tablesActivated = (if s.tbs.activationPending then (s.flag .tablesActivated).occur .none
    else s.flag .tablesActivated)

/-- A record of channel `c` that reached its final outcome between `s` and `t` was offered to capture
(R162), which takes the first record its target admits, whole, and raises CAPTURE_READY; and to
forwarding (R178), which copies it under its channel's forward mode while the queue holds fewer than
16 and drops and counts it otherwise. -/
def State.Offered (s t : State) (c : Fin 8) (r : ShotRecord) (o : ShotOutcome) (times : EchoTimes) :
    Prop :=
  let rejected := o ≠ .accepted ∧ o ≠ .referenceAccepted
  let target := ∃ filter condition, s.ldu.capture = .armed c filter condition ∧
    (filter = .any ∨ filter = .measure ∧ r.kind = 0 ∨ filter = .reference ∧ r.kind = 1) ∧
    (condition = .next ∨ rejected)
  let forwarded := ∃ e, s.tbs.active.channels[c] = .some e ∧
    (e.forward = .all ∨ e.forward = .rejected ∧ rejected)
  let waiting := s.mli.forwardQueue
  let dropped := s.counters.mLink.forwardedDropped
  (target → t.ldu.capture = .captured r o times ∧
    t.flag .captureReady = (s.flag .captureReady).occur .none ∧
    t.counters.ldu.capturesTaken = inc32 s.counters.ldu.capturesTaken) ∧
  (¬ target → t.ldu.capture = s.ldu.capture ∧ t.flag .captureReady = s.flag .captureReady ∧
    t.counters.ldu.capturesTaken = s.counters.ldu.capturesTaken) ∧
  (forwarded → waiting.length < 16 → t.mli.forwardQueue = waiting ++ [⟨o, r.payload⟩] ∧
    t.counters.mLink.forwardedDropped = dropped) ∧
  (forwarded → 16 ≤ waiting.length → t.mli.forwardQueue = waiting ∧
    t.counters.mLink.forwardedDropped = inc32 dropped) ∧
  (¬ forwarded → t.mli.forwardQueue = waiting ∧ t.counters.mLink.forwardedDropped = dropped)

end Sys2Proof.Machine
end

