-- ==== Sys2Proof/Certificates/Slice0/Obligations.lean ====
section
/-! DEFINITION. The statements for the provers: what each row of the table does, what it leaves as it
stands, and what every step keeps. The rules are those of spec/; the docstring of a statement that
rests on a choice of the model names the log entry. -/

open Sys2Proof Sys2Proof.Machine

/-! ### The machine as a whole -/

/-- The command at the front of the queue is the one a step takes, with the queue's rest. The queue is
the model's own form of the events of 00_scope.md, "Time and order", and no rule speaks of it (the
model's choice, log 20). -/
def Obligations.StepTakesTheFrontCommand : Prop :=
  ∀ (c : Instr) (rest : List Instr) (s : State), s.pending = c :: rest →
    step s = exec c { s with pending := rest }

/-- No command changes the queue of commands that wait. That queue is the model's own form of the
events that reach the part from outside, and no rule speaks of it (the model's choice, log 20). -/
def Obligations.CommandsLeaveTheQueue : Prop :=
  ∀ (c : Instr) (s t : State), exec c s = .next t → t.pending = s.pending

/-- While RESET is held, every command but HARD_RESET and RESET_RELEASE leaves the part as it is;
PULSE_EDGE and SHELL_DETECT_CHANGE move their lines and nothing else. The model's choice for what R184
says of the held part (log 5). -/
def Obligations.HeldPartStandsStill : Prop :=
  ∀ (c : Instr) (s : State), s.resetHeld = true → c ≠ .hardReset → c ≠ .resetRelease →
    exec c s = .next { s with
      pins := match c with
        | .pulseEdge high => ⟨high, s.pins.shellDetect⟩
        | .shellDetectChange high => ⟨s.pins.lengthPulse, high⟩
        | _ => s.pins }

/-! ### Invariants of every step

A step is a command of the queue, or on an empty queue one of the part's own acts or a millisecond mark
(the model's choice, logs 1 and 2). -/

/-- Every step keeps every queue within its capacity. -/
def Obligations.StepKeepsQueuesWithinCapacity : Prop :=
  ∀ s t : State, s.QueuesFit → step s = .next t → t.QueuesFit

/-- Every step keeps every backlog between 0 and 15, keeps the reference state of exactly the enabled
channels, and keeps in the A-out queue exactly the frames of the QUEUED requests, each once. -/
def Obligations.StepKeepsReferencesConsistent : Prop :=
  (∀ s t : State, s.BacklogsInRange → step s = .next t → t.BacklogsInRange) ∧
  (∀ s t : State, s.ReferencesFollow → step s = .next t → t.ReferencesFollow) ∧
  (∀ s t : State, s.RequestsQueued → step s = .next t → t.RequestsQueued)

/-- Every step keeps at most one context OPEN, and the sequence numbers of the contexts distinct and
below the next-sequence counter until the counter is exhausted. -/
def Obligations.StepKeepsContextsDistinct : Prop :=
  (∀ s t : State, s.OneOpen → step s = .next t → t.OneOpen) ∧
  (∀ s t : State, s.SequencesOrdered → step s = .next t → t.SequencesOrdered)

/-- Every step keeps the mode MEASURING exactly while some context is OPEN or CLOSING, and an activation
pending only then; and keeps the drain timer present in PARKING alone, the park request set in PARKING
and PARKED and clear in UNCONFIGURED and STANDBY. -/
def Obligations.StepKeepsModeStateConsistent : Prop :=
  (∀ s t : State, s.ModeAgrees → step s = .next t → t.ModeAgrees) ∧
  (∀ s t : State, s.ParkAgrees → step s = .next t → t.ParkAgrees)

/-- Every step keeps every excursion list within 32 entries and in nondecreasing order of start position,
and keeps every wall map in shape with every cell's sum between count times minimum and count times
maximum, within plausibility. -/
def Obligations.StepKeepsShellRecordsSound : Prop :=
  (∀ s t : State, s.ListsOrdered → step s = .next t → t.ListsOrdered) ∧
  (∀ s t : State, s.MapsSound → step s = .next t → t.MapsSound)

/-- After every step no channel meets the conditions of R29: a request that is owed has been issued. -/
def Obligations.StepLeavesNoRequestOwed : Prop :=
  ∀ s t : State, s.NoneOwed → step s = .next t → t.NoneOwed

/-- The state after reset meets every invariant above. -/
def Obligations.ResetMeetsTheInvariants : Prop :=
  State.reset.QueuesFit ∧ State.reset.BacklogsInRange ∧ State.reset.OneOpen ∧
  State.reset.ModeAgrees ∧ State.reset.ParkAgrees ∧ State.reset.SequencesOrdered ∧
  State.reset.ListsOrdered ∧ State.reset.MapsSound ∧ State.reset.ReferencesFollow ∧
  State.reset.RequestsQueued ∧ State.reset.NoneOwed

/-! ### RESET -/

/-- HARD_RESET takes every block to its hard-reset state, from any state; the lines and the waiting
commands are the outside world's. RESET_RELEASE lets the part start from that state, with the pulse
level read from LENGTH PULSE and a departure of 0 ms begun when SHELL DETECT reads ACTIVE. That the
part is held apart until the release is the model's choice (log 5). -/
def Obligations.ResetClearsEveryBlockAndReadsTheLines : Prop :=
  (∀ s : State, ∃ t, exec .hardReset s = .next t ∧ t.resetHeld = true ∧ t.pending = s.pending ∧
     t.pins = s.pins ∧ t.ali = ⟨false, .none, []⟩ ∧ t.mli = ⟨false, .none, [], []⟩ ∧
     t.cmu = ⟨[], []⟩ ∧ t.counters.list = List.replicate 121 0 ∧
     (∀ c : Fin 8, t.etu[c] = ⟨.none, .none, 0, .none⟩ ∧
       t.rfs.channels[c] = ⟨.none, 0, .none, .none⟩) ∧
     t.rfs.tagCounter = 0 ∧ t.tru.lengthCounter = 0 ∧ t.tru.detectorLevel = .inactive ∧
     t.tru.debounce = .none ∧ (∀ i : Fin 4, t.scs.contexts[i] = .none) ∧ t.scs.nextSequence = 1 ∧
     t.scs.mode = .unconfigured ∧ t.scs.parkRequest = false ∧ t.scs.drainTimer = .none ∧
     t.rpb = .none ∧
     t.tbs = ⟨⟨Vector.replicate 8 .none, Vector.replicate 4 .none, Vector.replicate 4 .none, .none⟩,
       ⟨Vector.replicate 8 .none, Vector.replicate 4 .none, Vector.replicate 4 .none, .none⟩,
       false, 0, false, 0⟩ ∧
     t.ldu = ⟨[], Vector.replicate 8 .none, ⟨0, .none, .none⟩, .idle⟩ ∧
     (∀ f : Machine.Flag, t.flag f = ⟨false, 0, .none, false⟩) ∧ t.evu.urgent = [] ∧
     t.evu.routine = [] ∧ t.attn = false) ∧
  (∀ s : State, s.resetHeld = true → ∃ u, exec .hardReset s = .next u ∧
     exec .resetRelease s = .next { u with
       resetHeld := false
       tru.pulseLevel := s.pins.lengthPulse
       tru.debounce := if s.pins.shellDetect then .some 0 else .none })

/-! ### Frames and links -/

/-- A frame built by the envelope of R174 passes the check of R173 and is read back whole. -/
def Obligations.FrameCheckReadsBackEveryFrame : Prop :=
  ∀ (link : Link) (f : Frame), f.kind ∈ inboundKinds link → f.payload.length ≤ 8201 →
    (f.kind = 0x11 → 9 ≤ f.payload.length) → checkFrame link f.bytes = .passed f

/-- A frame that fails a step of R173 is discarded, whichever row of its link brings it: the step's
counter increments and LINK_FAULT is raised. (Which step a frame too short for an envelope fails is the
model's choice, log 8.) -/
def Obligations.FailingFrameIsDiscarded : Prop :=
  ∀ (link : Link) (bytes : List Byte) (step : FrameStep) (s : State), s.resetHeld = false →
    s.linkInLock link = true → checkFrame link bytes = .failed step →
    let a := s.counters.aLink
    let m := s.counters.mLink
    let t := ({ s with
      counters.aLink := match link, step with
        | .aLink, .crc => { a with crcErrors := inc32 a.crcErrors }
        | .aLink, .length => { a with lengthErrors := inc32 a.lengthErrors }
        | .aLink, .kind => { a with unknownKinds := inc32 a.unknownKinds }
        | .mLink, _ => a
      counters.mLink := match link, step with
        | .mLink, .crc => { m with crcErrors := inc32 m.crcErrors }
        | .mLink, .length => { m with lengthErrors := inc32 m.lengthErrors }
        | .mLink, .kind => { m with unknownKinds := inc32 m.unknownKinds }
        | .aLink, _ => m }.raise .linkFault .none)
    exec (.linkFrameDiscarded link bytes) s = .next t ∧
    (link = .aLink → exec (.shotRecord bytes) s = .next t ∧
      exec (.concentratorMessage bytes) s = .next t) ∧
    (link = .mLink → exec (.commandFrame bytes) s = .next t ∧
      exec (.relayMessage bytes) s = .next t)

/-- A CONCENTRATOR MESSAGE joins the relay queue unchanged, or is dropped and counted when the queue
holds 16. Nothing else changes but the count of frames received. -/
def Obligations.ConcentratorMessageIsRelayed : Prop :=
  ∀ (bytes : List Byte) (f : Frame) (s : State), s.resetHeld = false → s.ali.inLock = true →
    checkFrame .aLink bytes = .passed f → f.kind = 0x12 →
    exec (.concentratorMessage bytes) s = .next
      (if s.mli.relayQueue.length < 16 then
        { s with
          counters.aLink.framesReceived := inc32 s.counters.aLink.framesReceived
          mli.relayQueue := s.mli.relayQueue ++ [⟨f.flags, f.payload⟩] }
      else
        { s with
          counters.aLink.framesReceived := inc32 s.counters.aLink.framesReceived
          counters.mLink.concentratorDropped := inc32 s.counters.mLink.concentratorDropped })

/-- A RELAY MESSAGE joins the A-out queue behind those waiting (requests that its arrival lets the
examination issue come after it), or is dropped with LINK_FAULT when the queue holds 8. -/
def Obligations.RelayMessageJoinsTheAOutQueue : Prop :=
  ∀ (bytes : List Byte) (f : Frame) (s : State), s.resetHeld = false → s.mli.inLock = true →
    checkFrame .mLink bytes = .passed f → f.kind = 0x32 →
    (s.ali.outQueue.length < 8 → ∃ t l, exec (.relayMessage bytes) s = .next t ∧
      t.ali = { s.ali with outQueue := s.ali.outQueue ++ [.relayed ⟨f.flags, f.payload⟩] ++ l } ∧
      (∀ a ∈ l, a.isRequest = true) ∧
      t.counters.mLink =
        { s.counters.mLink with framesReceived := inc32 s.counters.mLink.framesReceived } ∧
      t.counters.aLink = s.counters.aLink ∧ s.OnlyIssues t ∧ t.evu = s.evu ∧ t.etu = s.etu ∧
      t.tru = s.tru ∧ t.scs = s.scs ∧ t.tbs = s.tbs ∧ s.SameOutside t) ∧
    (8 ≤ s.ali.outQueue.length → exec (.relayMessage bytes) s = .next
      ({ s with
        counters.mLink.framesReceived := inc32 s.counters.mLink.framesReceived
        counters.aLink.relayedDropped := inc32 s.counters.aLink.relayedDropped }.raise
          .linkFault .none))

/-- A COMMAND joins the command queue, is lost with COMMAND_OVERRUN when the queue holds 4, and is
malformed with LINK_FAULT when its payload is shorter than 2 bytes. -/
def Obligations.CommandFrameJoinsTheCommandQueue : Prop :=
  ∀ (bytes : List Byte) (f : Frame) (s : State), s.resetHeld = false → s.mli.inLock = true →
    checkFrame .mLink bytes = .passed f → f.kind = 0x31 →
    let m := { s.counters.mLink with framesReceived := inc32 s.counters.mLink.framesReceived }
    (∀ tag code args, f.payload = tag :: code :: args → s.cmu.commands.length < 4 →
      exec (.commandFrame bytes) s = .next
        { s with
          counters.mLink := m
          cmu.commands := s.cmu.commands ++ [⟨tag, code, args⟩] }) ∧
    (2 ≤ f.payload.length → 4 ≤ s.cmu.commands.length →
      exec (.commandFrame bytes) s = .next
        ({ s with counters.mLink := { m with commandsOverrun := inc32 m.commandsOverrun } }.raise
          .commandOverrun .none)) ∧
    (f.payload.length < 2 →
      exec (.commandFrame bytes) s = .next
        ({ s with counters.mLink := { m with malformedCommands := inc32 m.malformedCommands } }.raise
          .linkFault .none))

/-- The A-link gains lock: ALINK_STATE, the lock-changes counter, and an examination; backlogs, reference
state and counters of the channels stand. It loses lock: the frame being sent is lost, every
outstanding request is cancelled and counted, the frames of the QUEUED ones leave the A-out queue and
the relayed messages stay, ALINK_STATE is raised and no REFERENCE_LOST. A frame partly received is
discarded as a length error (log 7). -/
def Obligations.ALinkLockDecidesRequests : Prop :=
  (∀ s : State, s.resetHeld = false → s.ali.inLock = false → ∃ t l,
     exec .aLinkLockGained s = .next t ∧
     t.ali = ⟨true, s.ali.sending, s.ali.outQueue ++ l⟩ ∧ (∀ a ∈ l, a.isRequest = true) ∧
     t.flag .alinkState = (s.flag .alinkState).occur .none ∧
     (∀ g, g ≠ .alinkState → t.flag g = s.flag g) ∧
     t.counters.aLink = { s.counters.aLink with lockChanges := inc32 s.counters.aLink.lockChanges } ∧
     s.OnlyIssues t ∧ t.NoneOwed ∧ t.etu = s.etu ∧ t.tru = s.tru ∧ t.scs = s.scs ∧ t.tbs = s.tbs ∧ s.SameOutside t) ∧
  (∀ (partly : Bool) (s : State), s.resetHeld = false → s.ali.inLock = true → ∃ t,
     exec (.aLinkLockLost partly) s = .next t ∧ t.ali.inLock = false ∧ t.ali.sending = .none ∧
     t.ali.outQueue.filter (fun a => !a.isRequest) =
       s.ali.outQueue.filter (fun a => !a.isRequest) ∧
     (s.RequestsQueued → ∀ a ∈ t.ali.outQueue, a.isRequest = false) ∧
     (∀ c : Fin 8, t.rfs.channels[c] = { s.rfs.channels[c] with request := .none } ∧
       t.counters.channels[c].requestsCancelled =
         (if s.rfs.channels[c].request.isSome then inc32 s.counters.channels[c].requestsCancelled
           else s.counters.channels[c].requestsCancelled)) ∧
     t.rfs.tagCounter = s.rfs.tagCounter ∧
     t.flag .alinkState = (s.flag .alinkState).occur .none ∧
     t.flag .linkFault =
       (if partly then (s.flag .linkFault).occur .none else s.flag .linkFault) ∧
     (∀ g, g ≠ .alinkState → g ≠ .linkFault → t.flag g = s.flag g) ∧
     t.counters.aLink =
       { s.counters.aLink with
         lockChanges := inc32 s.counters.aLink.lockChanges
         lengthErrors := if partly then inc32 s.counters.aLink.lengthErrors
           else s.counters.aLink.lengthErrors } ∧
     t.etu = s.etu ∧ t.tru = s.tru ∧ t.scs = s.scs ∧ t.tbs = s.tbs ∧ s.SameOutside t)

/-- The M-link's lock: gaining it changes nothing else; losing it aborts the frame being sent, with its
counter, and raises no flag unless a frame was partly received (log 7). FRAME_SEND_COMPLETE makes its
link free and changes nothing else. -/
def Obligations.MLinkLockAndFrameEnds : Prop :=
  (∀ s : State, s.resetHeld = false →
     exec .mLinkLockGained s = .next { s with mli.inLock := true } ∧
     (s.mli.inLock = true → ∀ partly : Bool,
       let aborted :=
         { s with
           mli.inLock := false
           mli.sending := .none
           counters.mLink.framesAborted :=
             if s.mli.sending.isSome then inc32 s.counters.mLink.framesAborted
             else s.counters.mLink.framesAborted }
       exec (.mLinkLockLost partly) s = .next
         (if partly then
           { aborted with
             counters.mLink.lengthErrors := inc32 s.counters.mLink.lengthErrors }.raise
               .linkFault .none
         else aborted))) ∧
  (∀ s : State, s.resetHeld = false →
     exec (.frameSendComplete .aLink) s = .next { s with ali.sending := .none } ∧
     exec (.frameSendComplete .mLink) s = .next { s with mli.sending := .none })

/-- One occurrence: its flag is set, counted and takes the sequence; a notice is formed exactly when
the flag was clear and enabled, and joins its class queue or is dropped and counted at 16; ATTN is
asserted while some flag is set and enabled. Every other flag, both marks and everything else stand. -/
def Obligations.OccurrenceSetsFlagAndFormsNotice : Prop :=
  ∀ (f : Machine.Flag) (q : Option Nat) (s : State),
    let t := s.raise f q
    let n : Notice := ⟨f, min ((s.flag f).count + 1) 255, q⟩
    let forms := (s.flag f).isSet = false ∧ (s.flag f).enabled = true
    t.flag f = ⟨true, min ((s.flag f).count + 1) 255, q.or (s.flag f).latest, (s.flag f).enabled⟩ ∧
    (∀ g, g ≠ f → t.flag g = s.flag g) ∧
    t.evu.urgent =
      (if forms ∧ f.urgent = true ∧ s.evu.urgent.length < 16 then s.evu.urgent ++ [n]
        else s.evu.urgent) ∧
    t.evu.routine =
      (if forms ∧ f.urgent = false ∧ s.evu.routine.length < 16 then s.evu.routine ++ [n]
        else s.evu.routine) ∧
    t.counters =
      { s.counters with
        evu.urgentDropped :=
          if forms ∧ f.urgent = true ∧ 16 ≤ s.evu.urgent.length then
            inc32 s.counters.evu.urgentDropped else s.counters.evu.urgentDropped
        evu.routineDropped :=
          if forms ∧ f.urgent = false ∧ 16 ≤ s.evu.routine.length then
            inc32 s.counters.evu.routineDropped else s.counters.evu.routineDropped } ∧
    t = { s with evu := t.evu, counters := t.counters } ∧
    (t.attn = true ↔ ∃ g, (t.flag g).isSet = true ∧ (t.flag g).enabled = true)

/-! ### Sending -/

/-- SEND_REFERENCE_REQUEST: the oldest request of the queue goes out on a free link in lock, its two
bytes the channel and the tag, and becomes SENT with the reference timeout. SEND_RELAYED_MESSAGE: with
no request queued, the oldest relayed message goes out with its flags and payload unchanged. The
frames-sent counter counts a frame as it is taken (the model's choice, log 21). -/
def Obligations.AOutQueueIsSentRequestsFirst : Prop :=
  (∀ (s : State) (c : Fin 8) (tag : Nat), s.resetHeld = false → s.ali.inLock = true →
     s.ali.sending = .none → s.ali.outQueue.find? AOut.isRequest = .some (.request c tag) →
     tag < 256 → s.rfs.channels[c].request = .some ⟨tag, .queued⟩ → ∃ t l,
     exec .sendReferenceRequest s = .next t ∧
     t.ali = ⟨true, .some ⟨0x21, 0, [BitVec.ofNat 8 c.val, BitVec.ofNat 8 tag]⟩,
       s.ali.outQueue.eraseP AOut.isRequest ++ l⟩ ∧ (∀ a ∈ l, a.isRequest = true) ∧
     State.OnlyIssues
       { s with
         rfs.channels := s.rfs.channels.set c
           { s.rfs.channels[c] with request := .some ⟨tag, .sent (s.lineField (·.refTimeout))⟩ } }
       t ∧
     t.counters.aLink = { s.counters.aLink with framesSent := inc32 s.counters.aLink.framesSent } ∧
     t.counters.mLink = s.counters.mLink ∧ t.evu = s.evu ∧ t.etu = s.etu ∧ t.tru = s.tru ∧
     t.scs = s.scs ∧ t.tbs = s.tbs ∧ s.SameOutside t) ∧
  (∀ (s : State) (m : Message) (rest : List AOut), s.resetHeld = false → s.ali.inLock = true →
     s.ali.sending = .none → s.ali.outQueue = .relayed m :: rest →
     rest.any AOut.isRequest = false → ∃ t l,
     exec .sendRelayedMessage s = .next t ∧
     t.ali = ⟨true, .some ⟨0x22, m.flags, m.payload⟩, rest ++ l⟩ ∧ (∀ a ∈ l, a.isRequest = true) ∧
     s.OnlyIssues t ∧
     t.counters.aLink = { s.counters.aLink with framesSent := inc32 s.counters.aLink.framesSent } ∧
     t.counters.mLink = s.counters.mLink ∧ t.evu = s.evu ∧ t.etu = s.etu ∧ t.tru = s.tru ∧
     t.scs = s.scs ∧ t.tbs = s.tbs ∧ s.SameOutside t)

/-- The M-out arbiter sends the first class of R179's list that has a frame: a reply, then an urgent
notice, then the report stream (stated apart), then a routine notice, then a wall sample, then a
concentrator message, then a forwarded record. Only the queue, the frame being sent and the count of
frames sent change, the count as the frame is taken (the model's choice, log 21). -/
def Obligations.ArbiterSendsHighestClass : Prop :=
  ∀ s : State, s.resetHeld = false → s.mli.inLock = true → s.mli.sending = .none →
    let sent := { s.counters with mLink.framesSent := inc32 s.counters.mLink.framesSent }
    let notice := fun n : Notice =>
      (⟨0x42, 0, be 1 n.flag.index.val ++ be 1 n.count ++ beOpt 4 n.sequence⟩ : Frame)
    (∀ r rest, s.cmu.replies = r :: rest → exec .sendReply s = .next
      { s with
        cmu.replies := rest
        mli.sending := .some ⟨0x41, 0, r.tag :: r.code :: BitVec.ofNat 8 r.status.code :: r.data⟩
        counters := sent }) ∧
    (s.cmu.replies = [] →
      (∀ n rest, s.evu.urgent = n :: rest → exec .sendNotice s = .next
        { s with evu.urgent := rest, mli.sending := .some (notice n), counters := sent }) ∧
      (s.evu.urgent = [] → s.rpb = .none →
        (∀ n rest, s.evu.routine = n :: rest → exec .sendNotice s = .next
          { s with evu.routine := rest, mli.sending := .some (notice n), counters := sent }) ∧
        (s.evu.routine = [] →
          (∀ w rest, s.ldu.liveQueue = w :: rest → exec .sendWallSample s = .next
            { s with ldu.liveQueue := rest, mli.sending := .some w.frame, counters := sent }) ∧
          (s.ldu.liveQueue = [] →
            (∀ m rest, s.mli.relayQueue = m :: rest → exec .sendConcentratorMessage s = .next
              { s with
                mli.relayQueue := rest
                mli.sending := .some ⟨0x45, m.flags, m.payload⟩
                counters := sent }) ∧
            (s.mli.relayQueue = [] → ∀ f rest, s.mli.forwardQueue = f :: rest →
              exec .sendForwardedRecord s = .next
                { s with
                  mli.forwardQueue := rest
                  mli.sending := .some ⟨0x46, BitVec.ofNat 8 f.outcome.code, f.payload⟩
                  counters := sent })))))

/-- SEND_REPORT_FRAME: with no reply and no urgent notice waiting, the next frame of the stream goes
out with its sequence number, index and type in front, and the index advances. Frame 0 is the REPORT
HEAD; then come the ZONE frames of the zones below Z, the zones reported (none in SUMMARY), then the
EXCURSION frames in list order, then the CELL ROW frames, each with its items; the frame whose index is
the frame count less 1 is the REPORT END, which returns the cursor to IDLE. Z and the maximum
eccentricity are those of R113 and R119. The M-link's frames-sent counter counts a frame as it is taken
(the model's choice, log 21). -/
def Obligations.ReportFrameAdvancesTheStream : Prop :=
  ∀ (s : State) (st : Stream) (i : Fin 4) (sh : Shell), s.resetHeld = false →
    s.mli.inLock = true → s.mli.sending = .none → s.cmu.replies = [] → s.evu.urgent = [] →
    s.rpb = .some st → s.contextOf st.sequence = .some i → s.scs.contexts[i] = .some sh →
    let last := decide (st.next + 1 = st.frameCount)
    let zones := if st.detail = .summary then 0 else sh.zonesReported
    let listed := sh.excursions.length
    let rowOf := fun z : Nat => (sh.map[z]?).getD []
    let tailMark := match sh.phase with
      | .opened _ => 0
      | .closing m _ _ => m
      | .complete m => m
    let mark := fun (b : Bool) (n : Nat) => if b then n else 0
    let meanOf := fun cell : Cell =>
      if cell.count = 0 then .none else .some ((2 * cell.sum + cell.count) / (2 * cell.count))
    ∃ items, exec .sendReportFrame s = .next
      { s with
        rpb := if last then .none else .some { st with next := st.next + 1 }
        mli.sending := .some ⟨0x43, 0, be 4 st.sequence ++ be 2 st.next ++ items⟩
        counters :=
          { s.counters with
            mLink.framesSent := inc32 s.counters.mLink.framesSent
            rpb.framesSent := inc32 s.counters.rpb.framesSent
            rpb.streamsCompleted := if last then inc32 s.counters.rpb.streamsCompleted
              else s.counters.rpb.streamsCompleted } } ∧
    (last = true → items = be 1 4 ++ be 2 st.frameCount) ∧
    (last = false → st.next = 0 → items = be 1 0 ++
      (be 1 (match st.detail with | .summary => 0 | .zones => 1 | .full => 2) ++
        be 4 sh.generation ++ be 2 sh.bank.productCode ++ be 6 sh.headMark ++ be 6 tailMark ++
        be 4 (tailMark - sh.headMark) ++
        be 1 (mark sh.irregular.tailForced 1 + mark sh.irregular.tailCut 2 +
          mark sh.irregular.dwell 4 + mark sh.irregular.tailStalled 8 +
          mark sh.irregular.excursionsOverflowed 16) ++
        be 4 sh.accepted ++ be 4 sh.stale ++ be 4 sh.beyondMap ++ be 4 sh.spill ++ be 4 sh.missed ++
        (be 4 sh.rejects.beforeHead ++ be 4 sh.rejects.noB1 ++ be 4 sh.rejects.noB2 ++
          be 4 sh.rejects.edge ++ be 4 sh.rejects.noTemperature ++ be 4 sh.rejects.implausible) ++
        beOpt 4 sh.wallMin ++ beOpt 4 sh.wallMax ++
        beOpt 4 (if sh.accepted = 0 then .none
          else .some ((2 * sh.wallSum + sh.accepted) / (2 * sh.accepted))) ++
        be 1 sh.zonesReported ++
        (match sh.maxEccentricity with
          | .none => [0, 0, 0, 0]
          | .some (e, z) => 1 :: (be 2 e ++ be 1 z)) ++
        be 1 listed ++ be 4 sh.overflow)) ∧
    (last = false → 1 ≤ st.next → st.next ≤ zones →
      let row := rowOf (st.next - 1)
      let held := row.filter fun cell => cell.count != 0
      let low := (held.filterMap (·.min)).min?
      let high := (held.filterMap (·.max)).max?
      items = be 1 1 ++
        (be 1 (st.next - 1) ++ be 1 held.length ++ be 4 ((row.map (·.count)).sum) ++ beOpt 4 low ++
          beOpt 4 high ++
          beOpt 4 (if held.length = 0 then .none
            else .some ((2 * (row.filterMap meanOf).sum + held.length) / (2 * held.length))) ++
          beOpt 2 (eccentricity sh.bank.minSectors row) ++
          be 1 (mark (low.any fun m => decide ((m : Int) < sh.bank.nominal - sh.bank.lowerTolerance)) 1 +
            mark (high.any fun m => decide (sh.bank.nominal + sh.bank.upperTolerance < m)) 2))) ∧
    (∀ e, last = false → zones < st.next → sh.excursions[st.next - 1 - zones]? = .some e →
      items = be 1 2 ++
        (be 1 (st.next - zones) ++ be 1 e.channel.val ++
          be 1 (match e.kind with | .thin => 0 | .thick => 1) ++ beSigned 4 e.startPos ++
          beSigned 4 e.endPos ++ be 4 e.extreme ++ be 1 e.firstSector ++ be 4 e.shots)) ∧
    (last = false → zones + listed < st.next →
      let z := st.next - 1 - zones - listed
      items = be 1 3 ++ (be 1 z ++ ((rowOf z).map fun cell =>
        be 2 cell.count ++ beOpt 4 cell.min ++ beOpt 4 cell.max ++ beOpt 4 (meanOf cell)).flatten)) ∧
    (0 < sh.zonesReported → ∃ cell ∈ rowOf (sh.zonesReported - 1), cell.count ≠ 0) ∧
    (∀ z, sh.zonesReported ≤ z → ∀ cell ∈ rowOf z, cell.count = 0) ∧
    (∀ e z, sh.maxEccentricity = .some (e, z) → z < sh.zonesReported ∧
      eccentricity sh.bank.minSectors (rowOf z) = .some e ∧
      ∀ y < sh.zonesReported, ∀ v, eccentricity sh.bank.minSectors (rowOf y) = .some v →
        v ≤ e ∧ (y < z → v < e)) ∧
    (sh.maxEccentricity = .none → ∀ y < sh.zonesReported,
      eccentricity sh.bank.minSectors (rowOf y) = .none)

/-! ### References -/

/-- The examination of R30 issues exactly the requests that R29 allows, in ascending channel order, each
channel against the state that the channels served before it left: the channels served are those that
were enabled, owed a reference, had no request, found the A-link in lock and a place in the A-out queue,
and whose level the mode allowed, a DUE channel in MEASURING only while no other channel had a request
outstanding. Their frames join the queue in that order with consecutive tags, and no channel meets R29
after it. -/
def Obligations.ExaminationIssuesEveryOwedRequest : Prop :=
  ∀ s : State, s.rfs.tagCounter < 256 → ∃ served : List (Fin 8),
    let t := s.examine
    let backlog := fun c : Fin 8 => s.rfs.channels[c].backlog
    served.Pairwise (· < ·) ∧
    (∀ c : Fin 8, c ∈ served ↔
      s.enabled c = true ∧ 0 < backlog c ∧ s.rfs.channels[c].request = .none ∧ s.ali.inLock = true ∧
      s.ali.outQueue.length + (served.filter fun d => decide (d < c)).length < 8 ∧
      match s.scs.mode with
      | .unconfigured => False
      | .standby => True
      | .measuring => 8 ≤ backlog c ∨ 4 ≤ backlog c ∧
        ∀ d : Fin 8, d ≠ c → s.rfs.channels[d].request = .none ∧ ¬ (d ∈ served ∧ d < c)
      | .parking => True
      | .parked => s.keepReference = true ∧ 8 ≤ backlog c) ∧
    t.ali = { s.ali with
      outQueue := s.ali.outQueue ++
        served.mapIdx fun k c => .request c ((s.rfs.tagCounter + k) % 256) } ∧
    (s.ali.outQueue.length ≤ 8 → t.ali.outQueue.length ≤ 8) ∧
    (∀ c : Fin 8, t.rfs.channels[c] =
      { s.rfs.channels[c] with
        request := if c ∈ served
          then .some ⟨(s.rfs.tagCounter + served.idxOf c) % 256, .queued⟩
          else s.rfs.channels[c].request } ∧
      t.counters.channels[c] =
        { s.counters.channels[c] with
          requestsIssued := if c ∈ served then inc32 s.counters.channels[c].requestsIssued
            else s.counters.channels[c].requestsIssued }) ∧
    t.rfs.tagCounter = (s.rfs.tagCounter + served.length) % 256 ∧ t.NoneOwed ∧
    t = { s with
      ali := t.ali
      rfs := { t.rfs with drainReports := s.rfs.drainReports }
      counters := { s.counters with channels := t.counters.channels } }

/-- REFERENCE_INTERVAL_EXPIRY: the counter is reloaded, the backlog increments and saturates at 15,
REFERENCE_OVERDUE is raised when it rises from below 12 to 12, and the channel's request and reference
state stand. REFERENCE_TIMEOUT: the SENT request is gone, REFERENCE_LOST is raised and counted, the
backlog and the reference state stand, and the channels are examined again. Each
row is the occurrence of its expiry, whatever its counter shows (the model's reading, log 3). A
millisecond mark, which a step takes when no command waits and the part has no act of its own (the
model's choice, logs 1 and 2), counts down every interval counter that runs, the timeout of every SENT
request, the tail timers, the drain timer and, while the levels differ, the debounce timer, counts up
the open time, and with the debounce timer at 0 brings DEBOUNCE_EXPIRY; nothing else changes. -/
def Obligations.ReferenceExpiriesCountAndLose : Prop :=
  (∀ (c : Fin 8) (e : ChannelEntry) (n : Nat) (s : State), s.resetHeld = false →
     s.intervalsRun = true → enabledEntry s.tbs.active.channels[c] = .some e →
     s.rfs.channels[c].interval = .some n → s.rfs.channels[c].backlog ≤ 15 → ∃ t,
     exec (.referenceIntervalExpiry c) s = .next t ∧
     State.OnlyIssues
       { s with
         rfs.channels := s.rfs.channels.set c
           { s.rfs.channels[c] with
             interval := .some e.refInterval
             backlog := if s.rfs.channels[c].backlog = 15 then 15
               else s.rfs.channels[c].backlog + 1 } } t ∧
     t.flag .referenceOverdue =
       (if s.rfs.channels[c].backlog = 11 then (s.flag .referenceOverdue).occur .none
         else s.flag .referenceOverdue) ∧
     (∀ g, g ≠ .referenceOverdue → t.flag g = s.flag g) ∧
     t.ali.sending = s.ali.sending ∧ t.ali.inLock = s.ali.inLock ∧ t.etu = s.etu ∧ t.tru = s.tru ∧
     t.scs = s.scs ∧ t.tbs = s.tbs ∧ s.SameOutside t) ∧
  (∀ (c : Fin 8) (tag n : Nat) (s : State), s.resetHeld = false →
     s.rfs.channels[c].request = .some ⟨tag, .sent n⟩ → ∃ t,
     exec (.referenceTimeout c) s = .next t ∧
     State.OnlyIssues
       { s with
         rfs.channels := s.rfs.channels.set c { s.rfs.channels[c] with request := .none } } t ∧
     t.NoneOwed ∧ t.flag .referenceLost = (s.flag .referenceLost).occur .none ∧
     (∀ g, g ≠ .referenceLost → t.flag g = s.flag g) ∧
     t.counters.channels[c].referencesLost = inc32 s.counters.channels[c].referencesLost ∧
     t.ali.sending = s.ali.sending ∧ t.ali.inLock = s.ali.inLock ∧ t.etu = s.etu ∧ t.tru = s.tru ∧
     t.scs = s.scs ∧ t.tbs = s.tbs ∧ s.SameOutside t) ∧
  (∀ s : State, s.resetHeld = false → s.pending = [] → s.ownAct = .none →
     let run := match s.scs.mode with
       | .unconfigured => false
       | .parked => s.keepReference
       | _ => true
     let apart := s.rawLevel ≠ s.tru.detectorLevel
     ∃ t, step s = .next t ∧
     (∀ c : Fin 8, t.rfs.channels[c] =
       { s.rfs.channels[c] with
         interval := if run then s.rfs.channels[c].interval.map (· - 1)
           else s.rfs.channels[c].interval
         request := s.rfs.channels[c].request.map fun q => match q.phase with
           | .queued => q
           | .sent n => { q with phase := .sent (n - 1) } }) ∧
     t.scs =
       { s.scs with
         contexts := s.scs.contexts.map fun o => o.map fun sh => match sh.phase with
           | .opened n => { sh with phase := .opened (n + 1) }
           | .closing tailMark n completion =>
             { sh with phase := .closing tailMark (n - 1) completion }
           | .complete _ => sh
         drainTimer := s.scs.drainTimer.map (· - 1) } ∧
     t.tru = { s.tru with
       debounce := if apart then s.tru.debounce.map (· - 1) else s.tru.debounce } ∧
     t.pending = (if s.tru.debounce = .some 0 ∧ apart then [.debounceExpiry] else []) ∧
     t = { s with
       pending := t.pending, rfs.channels := t.rfs.channels, scs := t.scs, tru := t.tru })

/-! ### The line and the detector -/

/-- PULSE_EDGE: a change of level that the pulse edge field selects adds the µm per pulse, saturating
at 2^48 − 1, and is counted; any other change moves the pulse level alone, and no change is no edge. -/
def Obligations.PulseEdgeCountsTravel : Prop :=
  ∀ (high : Bool) (s : State), s.resetHeld = false →
    let seen := { s with pins := { s.pins with lengthPulse := high } }
    (high = s.tru.pulseLevel → exec (.pulseEdge high) s = .next seen) ∧
    (high ≠ s.tru.pulseLevel → s.line = .none →
      exec (.pulseEdge high) s = .next { seen with tru := { s.tru with pulseLevel := high } }) ∧
    (high ≠ s.tru.pulseLevel → ∀ l, s.line = .some l →
      let counts := l.pulseEdge = .both ∨ (l.pulseEdge = .rising ∧ high = true) ∨
        (l.pulseEdge = .falling ∧ high = false)
      (¬ counts →
        exec (.pulseEdge high) s = .next { seen with tru := { s.tru with pulseLevel := high } }) ∧
      (counts → ∃ t, exec (.pulseEdge high) s = .next t ∧
        t.tru.lengthCounter = min (s.tru.lengthCounter + l.umPerPulse) (2 ^ 48 - 1) ∧
        t.tru.pulseLevel = high ∧ t.tru.detectorLevel = s.tru.detectorLevel ∧
        t.counters.tru.edgesCounted = inc32 s.counters.tru.edgesCounted ∧
        t.pins = seen.pins ∧ t.rpb = s.rpb ∧ t.ldu = s.ldu ∧ t.cmu = s.cmu ∧ t.mli = s.mli))

/-- No command but HARD_RESET and RESET_RELEASE lowers the length counter, and none carries it past
2^48 − 1. -/
def Obligations.LengthNeverFalls : Prop :=
  ∀ (c : Instr) (s t : State), c ≠ .hardReset → c ≠ .resetRelease →
    s.tru.lengthCounter ≤ 2 ^ 48 - 1 → exec c s = .next t →
    s.tru.lengthCounter ≤ t.tru.lengthCounter ∧ t.tru.lengthCounter ≤ 2 ^ 48 - 1

/-- A length advance completes exactly the CLOSING contexts whose completion length it reaches, oldest
first, with no irregularity flag added, SHELL_COMPLETE for each and TAIL_IRREGULAR for each that holds
an irregularity of its tail; every other context stands. While a shell stays in the ring, and when none
was reached, nothing more happens; when the last has left it, the boundary applies a pending activation
and takes the mode out of MEASURING. -/
def Obligations.LengthAdvanceCompletesReachedShells : Prop :=
  ∀ (high : Bool) (setup : LineSetup) (s : State), s.resetHeld = false → high ≠ s.tru.pulseLevel →
    s.line = .some setup →
    (setup.pulseEdge = .both ∨ (setup.pulseEdge = .rising ∧ high = true) ∨
      (setup.pulseEdge = .falling ∧ high = false)) →
    let counter := min (s.tru.lengthCounter + setup.umPerPulse) (2 ^ 48 - 1)
    let length := counter / 1000
    let tru := { s.tru with lengthCounter := counter, pulseLevel := high }
    let reached := fun sh : Shell => match sh.phase with
      | .closing _ _ completion => decide (completion ≤ length)
      | _ => false
    let irregular := fun sh : Shell => sh.irregular.tailForced || sh.irregular.tailCut ||
      sh.irregular.dwell || sh.irregular.tailStalled
    let contexts := s.scs.contexts.map fun o => o.map fun sh =>
      match sh.phase with
      | .closing tailMark _ completion =>
        if completion ≤ length then
          { sh with phase := .complete tailMark, runs := Vector.replicate 8 .none }
        else sh
      | _ => sh
    let stays := ∃ (j : Fin 4) (sh : Shell), contexts[j] = .some sh ∧ sh.inRing = true
    s.tru.lengthCounter / 1000 < length → ∃ t, exec (.pulseEdge high) s = .next t ∧
    t.scs.contexts = contexts ∧
    (s.SequencesOrdered → ∀ numbers, s.OldestFirst reached numbers →
      t.flag .shellComplete = (s.flag .shellComplete).occurEach numbers) ∧
    (s.SequencesOrdered → ∀ numbers,
      s.OldestFirst (fun sh => reached sh && irregular sh) numbers →
      t.flag .tailIrregular = (s.flag .tailIrregular).occurEach numbers) ∧
    (∀ g, g ≠ .shellComplete → g ≠ .tailIrregular → g ≠ .tablesActivated → t.flag g = s.flag g) ∧
    (stays ∨ (∀ i, s.holds reached i = false) →
      t.scs = { s.scs with contexts := contexts } ∧ t.tbs = s.tbs ∧ t.tru = tru ∧ t.rfs = s.rfs ∧
      t.etu = s.etu ∧ t.ali = s.ali ∧ t.flag .tablesActivated = s.flag .tablesActivated) ∧
    (¬ stays → (∃ i, s.holds reached i = true) → s.scs.mode = .measuring →
      s.BoundaryTo contexts tru t) ∧
    t.counters.tru.edgesCounted = inc32 s.counters.tru.edgesCounted ∧ t.rpb = s.rpb ∧
    t.ldu = s.ldu ∧ t.cmu = s.cmu ∧ t.mli = s.mli

/-- SHELL_DETECT_CHANGE: a raw level that comes to differ from the detector level loads the debounce
timer, one that returns to it abandons the departure and is counted, and any other change of the line
does nothing. -/
def Obligations.DetectorDepartsAndReturns : Prop :=
  ∀ (high : Bool) (s : State), s.resetHeld = false →
    let seen := { s with pins := { s.pins with shellDetect := high } }
    let activeHigh := decide ((s.line.map (·.polarity)).getD .activeHigh = .activeHigh)
    let raw : Level := if high = activeHigh then .active else .inactive
    exec (.shellDetectChange high) s = .next
      (if raw = s.tru.detectorLevel then
        match s.tru.debounce with
        | .none => seen
        | .some _ =>
          { seen with
            tru := { s.tru with debounce := .none }
            counters.tru.changesAbandoned := inc32 s.counters.tru.changesAbandoned }
      else
        match s.tru.debounce with
        | .none => { seen with tru := { s.tru with debounce := .some (s.lineField (·.debounce)) } }
        | .some _ => seen)

/-- A head-end, from the detector or from FORCE HEAD, that finds no shell OPEN, no activation pending,
a FREE context and a bank to bind: the lowest-numbered FREE context opens the next shell, the mode
becomes MEASURING, a request to park survives PARKING and not PARKED, and leaving PARKED without
keep-reference raises every enabled backlog to at least 12. -/
def Obligations.HeadEndOpensAShell : Prop :=
  ∀ (s u : State) (row : Instr) (i : Fin 4) (bank : ProductBank), s.HeadEndFrom row u →
    s.scs.mode ≠ .unconfigured → (∀ j, s.holds Shell.isOpen j = false) →
    s.tbs.activationPending = false → s.scs.contexts[i] = .none →
    (∀ j : Fin 4, j < i → s.scs.contexts[j] ≠ .none) → s.scs.nextSequence ≠ 0 →
    s.tbs.active.banks[s.tbs.selectedBank] = .some bank →
    ∃ (t : State) (sh : Shell), exec row s = .next t ∧
      sh.Fresh s.scs.nextSequence s.tbs.generation bank (s.tru.lengthCounter / 1000) ∧
      t.scs = ⟨s.scs.contexts.set i (.some sh),
        if s.scs.nextSequence = 4294967295 then 0 else s.scs.nextSequence + 1, .measuring,
        if s.scs.mode = .parked then false else s.scs.parkRequest, .none⟩ ∧
      t.flag .shellOpened = (s.flag .shellOpened).occur (.some s.scs.nextSequence) ∧
      t.flag .parkState = (if s.scs.mode = .parked then (s.flag .parkState).occur .none
        else s.flag .parkState) ∧
      (∀ g, g ≠ .shellOpened → g ≠ .parkState → g ≠ .referenceOverdue → t.flag g = s.flag g) ∧
      (∀ c : Fin 8, t.rfs.channels[c].backlog =
        if s.scs.mode = .parked ∧ s.keepReference = false ∧ s.enabled c = true then
          max s.rfs.channels[c].backlog 12 else s.rfs.channels[c].backlog) ∧
      t.counters.scs.shellsOpened = inc32 s.counters.scs.shellsOpened ∧
      t.counters.tru = u.counters.tru ∧ t.tru = u.tru ∧ t.cmu = u.cmu ∧ t.etu = s.etu ∧
      t.tbs = s.tbs ∧ t.rpb = s.rpb ∧ t.ldu = s.ldu ∧ t.mli = s.mli ∧ t.pins = s.pins

/-- A tail-end, from the detector or from FORCE TAIL: the OPEN context enters CLOSING with its tail
mark at the current length and no irregularity added, or, with none OPEN, in any mode and on any line,
the event is a stray tail. On a line whose ring offset and tail margin are both 0 the OPEN context
completes at once, with SHELL_COMPLETE, and when it was the last in the ring that is the boundary. -/
def Obligations.TailEndClosesTheOpenShell : Prop :=
  ∀ (s u : State) (row : Instr), s.TailEndFrom row u → s.OneOpen →
    let mark := s.tru.lengthCounter / 1000
    let gap := s.lineField (·.ringOffset) + s.lineField (·.tailMargin)
    ((∀ i, s.holds Shell.isOpen i = false) → exec row s = .next
      { u with counters.scs.strayTails := inc32 s.counters.scs.strayTails }) ∧
    (∀ (i : Fin 4) (sh : Shell), s.scs.contexts[i] = .some sh → sh.isOpen = true → 0 < gap →
      exec row s = .next
        { u with
          scs.contexts := s.scs.contexts.set i (.some
            { sh with
              phase := .closing mark (s.lineField (·.tailTimeout))
                (mark + s.lineField (·.ringOffset) + s.lineField (·.tailMargin)) }) }) ∧
    (∀ (i : Fin 4) (sh : Shell), s.scs.contexts[i] = .some sh → sh.isOpen = true → gap = 0 →
      let contexts := s.scs.contexts.set i (.some
        { sh with phase := .complete mark, runs := Vector.replicate 8 .none })
      ∃ t, exec row s = .next t ∧ t.scs.contexts = contexts ∧
        t.flag .shellComplete = (s.flag .shellComplete).occur (.some sh.sequence) ∧
        t.flag .tailIrregular =
          (if sh.irregular.tailForced ∨ sh.irregular.tailCut ∨ sh.irregular.dwell ∨
              sh.irregular.tailStalled then (s.flag .tailIrregular).occur (.some sh.sequence)
            else s.flag .tailIrregular) ∧
        (∀ g, g ≠ .shellComplete → g ≠ .tailIrregular → g ≠ .tablesActivated →
          t.flag g = s.flag g) ∧
        ((∃ j, j ≠ i ∧ s.holds Shell.inRing j = true) →
          t.scs = { s.scs with contexts := contexts } ∧ t.tbs = s.tbs ∧ t.tru = u.tru ∧
          t.rfs = s.rfs ∧ t.etu = s.etu ∧ t.ali = s.ali ∧
          t.flag .tablesActivated = s.flag .tablesActivated) ∧
        ((∀ j, j ≠ i → s.holds Shell.inRing j = false) → s.scs.mode = .measuring →
          s.BoundaryTo contexts u.tru t) ∧
        t.counters.tru = u.counters.tru ∧ t.counters.scs = s.counters.scs ∧ t.cmu = u.cmu ∧
        t.rpb = s.rpb ∧ t.ldu = s.ldu ∧ t.mli = s.mli ∧ t.pins = s.pins)

/-- A head-end, from the detector or from FORCE HEAD, in MEASURING. With no activation pending, one that
finds a shell OPEN closes it with TAIL_FORCED (to COMPLETE at once on a line whose ring offset and tail
margin are both 0) and opens the next in the lowest-numbered FREE context. With an activation pending,
the OPEN context takes TAIL_FORCED and every CLOSING one is completed with TAIL_CUT, oldest first, the
staged set is applied within the head-end, and then a FREE context, or the oldest report not being
streamed, takes the next shell under the new tables; or, with no bank there to bind or the numbers
exhausted, the shell is missed and the mode leaves MEASURING. -/
def Obligations.HeadEndForcesTheTail : Prop :=
  ∀ (s u : State) (row : Instr), s.HeadEndFrom row u → s.OneOpen → s.scs.mode = .measuring →
    let mark := s.tru.lengthCounter / 1000
    let gap := s.lineField (·.ringOffset) + s.lineField (·.tailMargin)
    let nextNumber := if s.scs.nextSequence = 4294967295 then 0 else s.scs.nextSequence + 1
    (∀ (i j : Fin 4) (old : Shell) (bank : ProductBank), s.tbs.activationPending = false →
      s.scs.contexts[j] = .some old → old.isOpen = true → s.scs.contexts[i] = .none →
      (∀ k : Fin 4, k < i → s.scs.contexts[k] ≠ .none) → s.scs.nextSequence ≠ 0 →
      s.tbs.active.banks[s.tbs.selectedBank] = .some bank →
      let closed :=
        { old with
          phase := if 0 < gap then .closing mark (s.lineField (·.tailTimeout))
              (mark + s.lineField (·.ringOffset) + s.lineField (·.tailMargin))
            else .complete mark
          runs := if 0 < gap then old.runs else Vector.replicate 8 .none
          irregular := { old.irregular with tailForced := true } }
      ∃ t sh, exec row s = .next t ∧
        sh.Fresh s.scs.nextSequence s.tbs.generation bank mark ∧
        t.scs = ⟨(s.scs.contexts.set j (.some closed)).set i (.some sh), nextNumber, .measuring,
          s.scs.parkRequest, .none⟩ ∧
        t.flag .shellOpened = (s.flag .shellOpened).occur (.some s.scs.nextSequence) ∧
        (∀ g, g = .shellComplete ∨ g = .tailIrregular →
          t.flag g = if 0 < gap then s.flag g else (s.flag g).occur (.some old.sequence)) ∧
        (∀ g, g ≠ .shellOpened → g ≠ .shellComplete → g ≠ .tailIrregular → t.flag g = s.flag g) ∧
        t.cmu = u.cmu ∧ t.tru = u.tru ∧ t.counters.tru = u.counters.tru ∧ t.tbs = s.tbs ∧
        t.rfs.channels = s.rfs.channels ∧ t.ali = s.ali ∧ t.etu = s.etu ∧ t.rpb = s.rpb ∧
        t.ldu = s.ldu ∧ t.mli = s.mli) ∧
    (∀ i : Fin 4, s.tbs.activationPending = true →
      let cut := fun sh : Shell => match sh.phase with
        | .opened _ =>
          { sh with
            phase := .complete mark, runs := Vector.replicate 8 .none
            irregular := { sh.irregular with
              tailForced := true, tailCut := if 0 < gap then true else sh.irregular.tailCut } }
        | .closing tailMark _ _ =>
          { sh with
            phase := .complete tailMark, runs := Vector.replicate 8 .none
            irregular := { sh.irregular with tailCut := true } }
        | .complete _ => sh
      let contexts := s.scs.contexts.map fun o => o.map cut
      let reclaimable := fun sh : Shell => !s.streamed sh
      let taken :=
        s.scs.contexts[i] = .none ∧ (∀ k : Fin 4, k < i → s.scs.contexts[k] ≠ .none) ∨
        (∀ k : Fin 4, s.scs.contexts[k] ≠ .none) ∧ s.holds reclaimable i = true ∧
          ∀ k : Fin 4, k ≠ i → s.holds reclaimable k = true → s.sequenceAt i < s.sequenceAt k
      taken → ∃ t, exec row s = .next t ∧ t.tbs = s.tbs.applied ∧ s.ChannelsFollow t ∧
        t.DetectorFollows s.tbs.active.line u.tru ∧
        t.flag .tablesActivated = (s.flag .tablesActivated).occur .none ∧
        (s.SequencesOrdered → 0 < gap → ∀ numbers, s.OldestFirst Shell.inRing numbers →
          t.flag .shellComplete = (s.flag .shellComplete).occurEach numbers ∧
          t.flag .tailIrregular = (s.flag .tailIrregular).occurEach numbers) ∧
        t.flag .reportLost = (if s.scs.contexts[i] = .none then s.flag .reportLost
          else (s.flag .reportLost).occur (.some (s.sequenceAt i))) ∧
        t.counters.scs.reportsLost = (if s.scs.contexts[i] = .none then s.counters.scs.reportsLost
          else inc32 s.counters.scs.reportsLost) ∧
        (∀ bank, s.scs.nextSequence ≠ 0 → s.tbs.staged.banks[s.tbs.selectedBank] = .some bank →
          ∃ sh : Shell, sh.Fresh s.scs.nextSequence s.tbs.applied.generation bank mark ∧
          t.scs = ⟨contexts.set i (.some sh), nextNumber, .measuring, s.scs.parkRequest, .none⟩ ∧
          t.flag .shellOpened = (s.flag .shellOpened).occur (.some s.scs.nextSequence) ∧
          t.flag .shellMissed = s.flag .shellMissed) ∧
        (s.scs.nextSequence = 0 ∨ s.tbs.staged.banks[s.tbs.selectedBank] = .none →
          t.scs =
            { s.scs with
              contexts := contexts.set i .none
              mode := if s.scs.parkRequest then .parking else .standby
              drainTimer := if s.scs.parkRequest then
                  .some ((s.tbs.staged.line.map (·.parkDrainLimit)).getD 0)
                else s.scs.drainTimer } ∧
          t.flag .shellMissed = (s.flag .shellMissed).occur .none ∧
          t.flag .shellOpened = s.flag .shellOpened) ∧
        (∀ g, g ≠ .shellComplete → g ≠ .tailIrregular → g ≠ .tablesActivated → g ≠ .reportLost →
          g ≠ .shellOpened → g ≠ .shellMissed → t.flag g = s.flag g) ∧
        t.cmu = u.cmu ∧ t.counters.tru = u.counters.tru ∧ t.rpb = s.rpb ∧ t.ldu = s.ldu ∧
        t.mli = s.mli ∧ t.pins = s.pins)

/-! ### Dwell, tail and park limits -/

/-- DWELL_LIMIT: the OPEN context enters CLOSING at the current length with DWELL. A context that enters
CLOSING with ring offset and tail margin both 0 completes at once: FORCE TAIL and DWELL_LIMIT take the
OPEN context straight to COMPLETE, with SHELL_COMPLETE. (The row is the occurrence itself, log 3.) -/
def Obligations.DwellLimitClosesTheShell : Prop :=
  (∀ (s : State) (i : Fin 4) (sh : Shell), s.resetHeld = false → s.scs.contexts[i] = .some sh →
     sh.isOpen = true → 0 < s.lineField (·.ringOffset) + s.lineField (·.tailMargin) →
     let mark := s.tru.lengthCounter / 1000
     exec (.dwellLimit i) s = .next
       { s with
         scs.contexts := s.scs.contexts.set i (.some
           { sh with
             phase := .closing mark (s.lineField (·.tailTimeout))
               (mark + s.lineField (·.ringOffset) + s.lineField (·.tailMargin))
             irregular := { sh.irregular with dwell := true } }) }) ∧
  (∀ (s : State) (i : Fin 4) (sh : Shell), s.resetHeld = false → s.OneOpen →
     s.scs.contexts[i] = .some sh → sh.isOpen = true →
     s.lineField (·.ringOffset) = 0 → s.lineField (·.tailMargin) = 0 →
     let done := { sh with
       phase := .complete (s.tru.lengthCounter / 1000), runs := Vector.replicate 8 .none }
     (∃ t, exec (.dwellLimit i) s = .next t ∧
       t.scs.contexts = s.scs.contexts.set i
         (.some { done with irregular := { sh.irregular with dwell := true } }) ∧
       t.flag .shellComplete = (s.flag .shellComplete).occur (.some sh.sequence) ∧
       t.flag .tailIrregular = (s.flag .tailIrregular).occur (.some sh.sequence)) ∧
     (∀ c rest, s.Waits c rest → c.code = 0x0A → c.args = [] →
       ∃ t, exec .forceTail s = .next t ∧
         t.scs.contexts = s.scs.contexts.set i (.some done) ∧
         t.flag .shellComplete = (s.flag .shellComplete).occur (.some sh.sequence)))

/-- TAIL_TIMEOUT: the CLOSING context completes with TAIL_STALLED, SHELL_COMPLETE and TAIL_IRREGULAR.
With another shell in the ring nothing else happens. When it was the last, a pending activation is
applied and the mode leaves MEASURING, for PARKING with the drain timer loaded when the park request is
set and for STANDBY otherwise. (The row is the
occurrence itself, log 3.) -/
def Obligations.TailTimeoutCompletesTheShell : Prop :=
  ∀ (s : State) (i : Fin 4) (sh : Shell) (tailMark timer completion : Nat), s.resetHeld = false →
    s.scs.contexts[i] = .some sh → sh.phase = .closing tailMark timer completion →
    s.scs.mode = .measuring →
    let done := { sh with
      phase := .complete tailMark, runs := Vector.replicate 8 .none
      irregular := { sh.irregular with tailStalled := true } }
    let contexts := s.scs.contexts.set i (.some done)
    ((∃ j, j ≠ i ∧ s.holds Shell.inRing j = true) →
      exec (.tailTimeout i) s = .next
        (({ s with scs.contexts := contexts }.raise .shellComplete (.some sh.sequence)).raise
          .tailIrregular (.some sh.sequence))) ∧
    ((∀ j, j ≠ i → s.holds Shell.inRing j = false) →
      ∃ t, exec (.tailTimeout i) s = .next t ∧
        t.scs = { s.scs with
          contexts := contexts
          mode := if s.scs.parkRequest then .parking else .standby
          drainTimer := if s.scs.parkRequest then
              .some ((((if s.tbs.activationPending then s.tbs.staged.line else s.tbs.active.line).map
                (·.parkDrainLimit)).getD 0))
            else s.scs.drainTimer } ∧
        t.tbs = (if s.tbs.activationPending then
            { s.tbs with
              active := s.tbs.staged, activeValid := true, activationPending := false
              generation := if s.tbs.generation = 4294967295 then 1 else s.tbs.generation + 1 }
          else s.tbs) ∧
        t.flag .shellComplete = (s.flag .shellComplete).occur (.some sh.sequence) ∧
        t.flag .tailIrregular = (s.flag .tailIrregular).occur (.some sh.sequence) ∧
        t.flag .tablesActivated = (if s.tbs.activationPending then
          (s.flag .tablesActivated).occur .none else s.flag .tablesActivated) ∧ s.SameOutside t)

/-- PARK_DRAIN_LIMIT and DRAINED_REPORT take PARKING to PARKED with PARK_STATE; the limit raises
PARK_INCOMPLETE too, and the report does not. The park request, the backlogs and the reference state
stand. A drained report taken in another mode is disregarded. (PARK_DRAIN_LIMIT is the
occurrence itself, log 3; the count of reports not yet taken is the model's, log 9.) -/
def Obligations.ParkingEndsInParked : Prop :=
  ∀ s : State, s.resetHeld = false →
    let parked := fun t : State =>
      t.scs = { s.scs with mode := .parked, drainTimer := .none } ∧ s.OnlyIssues t ∧
      t.flag .parkState = (s.flag .parkState).occur .none ∧
      (∀ g, g ≠ .parkState → g ≠ .parkIncomplete → t.flag g = s.flag g) ∧
      t.ali.sending = s.ali.sending ∧ t.ali.inLock = s.ali.inLock ∧ t.etu = s.etu ∧
      t.tru = s.tru ∧ t.tbs = s.tbs ∧ s.SameOutside t
    (∀ n, s.scs.drainTimer = .some n → s.scs.mode = .parking →
      ∃ t, exec .parkDrainLimit s = .next t ∧ parked t ∧
        t.flag .parkIncomplete = (s.flag .parkIncomplete).occur .none ∧
        t.rfs.drainReports = s.rfs.drainReports) ∧
    (0 < s.rfs.drainReports →
      (s.scs.mode = .parking → ∃ t, exec .drainedReport s = .next t ∧ parked t ∧
        t.flag .parkIncomplete = s.flag .parkIncomplete ∧
        t.rfs.drainReports = s.rfs.drainReports - 1) ∧
      (s.scs.mode ≠ .parking → exec .drainedReport s = .next
        { s with rfs.drainReports := s.rfs.drainReports - 1 }))

/-! ### Shot records -/

/-- The cases of R85 in order: the oldest CLOSING context whose tail has not reached the ring, then the
OPEN context, then none; a position of 0 or more assigns the record and a negative one rejects it with
BEFORE_HEAD against that context. -/
def Obligations.ShotGoesToTailThenOpenShell : Prop :=
  ∀ s : State, s.OneOpen →
    let length := s.tru.lengthCounter / 1000
    let offset := s.lineField (·.ringOffset)
    let inRing := fun sh : Shell => match sh.phase with
      | .closing tailMark _ _ => decide (length < tailMark + offset)
      | _ => false
    let judged := fun (i : Fin 4) (sh : Shell) =>
      if sh.headMark + offset ≤ length then
        Assignment.assigned i (length - (sh.headMark + offset))
      else .beforeHead i
    (∀ (i : Fin 4) (sh : Shell), s.scs.contexts[i] = .some sh → inRing sh = true →
      (∀ (j : Fin 4) (other : Shell), s.scs.contexts[j] = .some other → inRing other = true →
        j ≠ i → sh.sequence < other.sequence) → s.assign = judged i sh) ∧
    (∀ (i : Fin 4) (sh : Shell), (∀ j, s.holds inRing j = false) →
      s.scs.contexts[i] = .some sh → sh.isOpen = true → s.assign = judged i sh) ∧
    ((∀ j, s.holds inRing j = false) → (∀ j, s.holds Shell.isOpen j = false) →
      s.assign = .noShell)

/-- A measurement record that is assigned to a context, timed, has a temperature (its own reading, or
the held one while the hold age is below the limit) and is plausible ends ACCEPTED: its context takes
the shot and the gap before it, its channel keeps the sequence, the temperature and the outcome, the
live data takes the wall, and the record is offered to capture and forwarding. -/
def Obligations.AcceptedShotIsBinned : Prop :=
  ∀ (bytes : List Byte) (f : Frame) (c : Fin 8) (e : ChannelEntry) (i : Fin 4) (sh : Shell)
    (position t1 t2 transit temperature age : Nat) (s : State), s.resetHeld = false →
    s.ali.inLock = true → checkFrame .aLink bytes = .passed f → f.kind = 0x11 →
    s.scs.mode ≠ .unconfigured → s.scs.mode ≠ .parked →
    let r := readShotRecord f.payload
    slotOf r.channel = .some c → enabledEntry s.tbs.active.channels[c] = .some e →
    r.badLength f.payload.length = false → r.kind = 0 →
    (r.temperature ≤ 20000 ∧ temperature = r.temperature ∧ age = 0 ∨
      20000 < r.temperature ∧ s.etu[c].heldTemp = .some temperature ∧
        s.etu[c].holdAge < e.holdLimit ∧ age = s.etu[c].holdAge + 1) →
    s.assign = .assigned i position → s.scs.contexts[i] = .some sh →
    timeRecord r.samples e e.measurementGates = .timed t1 t2 transit →
    let w := computeWall e (s.velocityTable e) (s.rmeas c e) sh.bank.contraction transit temperature
    sh.bank.plausibleMin ≤ w.wCold → w.wCold ≤ sh.bank.plausibleMax →
    let shot : Shot := ⟨c, position, position / sh.bank.zoneLength,
      (e.headAngle + position * 3600 / sh.bank.helixPitch) % 3600 * sh.bank.sectors / 3600,
      w.wCold, sh.bank.classify w.wCold, (s.ref c).stale⟩
    let gap := match s.etu[c].prevSeq with
      | .none => 0
      | .some p => ((r.sequence + 65536 - p % 65536) % 65536) - 1
    ∃ t, exec (.shotRecord bytes) s = .next t ∧
      t.scs = { s.scs with
        contexts := s.scs.contexts.set i
          (.some (Shell.accept shot { sh with missed := min (sh.missed + gap) 4294967295 })) } ∧
      t.etu = s.etu.set c ⟨.some r.sequence, .some temperature, age, .some .accepted⟩ ∧
      t.ldu.lastWCold = s.ldu.lastWCold.set c (.some w.wCold) ∧
      t.ldu.interval.count = inc32 s.ldu.interval.count ∧
      t.ldu.liveQueue =
        (if e.live = true ∧ s.ldu.liveQueue.length < 64 then
          s.ldu.liveQueue ++ [⟨c, r.sequence, sh.sequence, position, shot.zone, shot.sector,
            w.wHot, w.wCold, temperature, w.velocity, shot.stale, w.tempClamped, shot.shotClass,
            decide (128 ≤ shot.zone)⟩]
        else s.ldu.liveQueue) ∧
      s.Offered t c r .accepted ⟨.some t1, .some t2, .some transit⟩ ∧
      t.counters.channels[c].missedShots =
        min (s.counters.channels[c].missedShots + gap) 4294967295 ∧
      t.counters.aLink =
        { s.counters.aLink with framesReceived := inc32 s.counters.aLink.framesReceived } ∧
      (∀ g, g ≠ .excursion → g ≠ .liveOverrun → g ≠ .captureReady → t.flag g = s.flag g) ∧
      t.rfs = s.rfs ∧ t.tru = s.tru ∧ t.tbs = s.tbs ∧ t.ali = s.ali ∧ t.rpb = s.rpb ∧
      t.cmu = s.cmu ∧ t.pins = s.pins ∧ t.mli.sending = s.mli.sending

/-- No record that is dropped or rejected touches the map, the runs or the statistics of a shell. One
whose channel has no slot, or is not enabled outside UNCONFIGURED, is dropped with RECORD_FAULT; one of
wrong length too, with its channel's last outcome BAD_LENGTH; and neither is offered to capture or
forwarding. A record in UNCONFIGURED, and a measurement record in PARKED, is a mode drop: its sequence
is kept and nothing else of its channel. A measurement record that passes ends NO_SHELL with none in the
ring, BEFORE_HEAD against a shell whose front has not reached it, and, when assigned to a shell, NO_B1,
NO_B2 or EDGE when it cannot be timed, NO_TEMPERATURE with no reading and none held below the hold
limit, and IMPLAUSIBLE outside the plausibility range: each is counted in its place, the last six among
its shell's rejects, with no flag, and offered to capture and forwarding. -/
def Obligations.RejectedShotTouchesNoShell : Prop :=
  ∀ (bytes : List Byte) (f : Frame) (s : State), s.resetHeld = false → s.ali.inLock = true →
    checkFrame .aLink bytes = .passed f → f.kind = 0x11 →
    let r := readShotRecord f.payload
    let a := { s.counters.aLink with framesReceived := inc32 s.counters.aLink.framesReceived }
    let wrong := r.sampleCount < 64 ∨ 4096 < r.sampleCount ∨
      f.payload.length ≠ 9 + 2 * r.sampleCount ∨ 1 < r.kind
    let untimed : EchoTimes := ⟨.none, .none, .none⟩
    let ended := fun (c : Fin 8) (etu : EtuChannel) (channel : ChannelCounters)
        (contexts : Vector (Option Shell) 4) (unassigned : Nat) (o : ShotOutcome)
        (times : EchoTimes) =>
      ∃ t, exec (.shotRecord bytes) s = .next t ∧ s.Offered t c r o times ∧
        t.scs = { s.scs with contexts := contexts } ∧
        t.etu = s.etu.set c { etu with prevSeq := .some r.sequence, lastOutcome := .some o } ∧
        t.counters.channels = s.counters.channels.set c channel ∧ t.counters.aLink = a ∧
        t.counters.scs = { s.counters.scs with unassignedShots := unassigned } ∧
        t.ldu = { s.ldu with capture := t.ldu.capture } ∧
        t.mli = { s.mli with forwardQueue := t.mli.forwardQueue } ∧
        (∀ g, g ≠ .captureReady → t.flag g = s.flag g) ∧ t.rfs = s.rfs ∧ t.tru = s.tru ∧
        t.tbs = s.tbs ∧ t.ali = s.ali ∧ t.rpb = s.rpb ∧ t.cmu = s.cmu ∧ t.pins = s.pins
    ((∀ c, slotOf r.channel = .some c → s.scs.mode ≠ .unconfigured ∧ s.enabled c = false) →
      exec (.shotRecord bytes) s = .next
        ({ s with counters.aLink := { a with unknownChannels := inc32 a.unknownChannels } }.raise
          .recordFault .none)) ∧
    (∀ c, slotOf r.channel = .some c → s.scs.mode = .unconfigured ∨ s.enabled c = true → wrong →
      exec (.shotRecord bytes) s = .next
        ({ s with
          etu := s.etu.set c { s.etu[c] with lastOutcome := .some .badLength }
          counters :=
            { s.counters with
              aLink := a
              channels := s.counters.channels.set c
                { s.counters.channels[c] with
                  badLength := inc32 s.counters.channels[c].badLength } } }.raise
          .recordFault .none)) ∧
    (∀ c o, slotOf r.channel = .some c → ¬ wrong →
      s.scs.mode = .unconfigured ∧ o = .unconfigured ∨
        s.scs.mode = .parked ∧ s.enabled c = true ∧ r.kind = 0 ∧ o = .parked →
      ended c s.etu[c]
        { s.counters.channels[c] with modeDrops := inc32 s.counters.channels[c].modeDrops }
        s.scs.contexts s.counters.scs.unassignedShots o untimed) ∧
    (∀ c e, slotOf r.channel = .some c → enabledEntry s.tbs.active.channels[c] = .some e → ¬ wrong →
      r.kind = 0 → s.scs.mode ≠ .unconfigured → s.scs.mode ≠ .parked →
      let gap := match s.etu[c].prevSeq with
        | .none => 0
        | .some p => ((r.sequence + 65536 - p % 65536) % 65536) - 1
      let channel := { s.counters.channels[c] with
        missedShots := min (s.counters.channels[c].missedShots + gap) 4294967295 }
      let refreshed := if r.temperature ≤ 20000 then
          { s.etu[c] with heldTemp := .some r.temperature, holdAge := 0 }
        else s.etu[c]
      let unassigned := s.counters.scs.unassignedShots
      (s.assign = .noShell →
        ended c refreshed channel s.scs.contexts (inc32 unassigned) .noShell untimed) ∧
      (∀ i sh, s.assign = .beforeHead i → s.scs.contexts[i] = .some sh →
        ended c refreshed channel
          (s.scs.contexts.set i (.some
            { sh with rejects.beforeHead := inc32 sh.rejects.beforeHead })) unassigned
          .beforeHead untimed) ∧
      (∀ i position sh, s.assign = .assigned i position → s.scs.contexts[i] = .some sh →
        let counted := fun rejects : Rejects => s.scs.contexts.set i (.some
          { sh with missed := min (sh.missed + gap) 4294967295, rejects := rejects })
        (∀ o times, timeRecord r.samples e e.measurementGates = .failed o times →
          (o = .noB1 ∨ o = .noB2 ∨ o = .edge) ∧
          ended c refreshed channel
            (counted (match o with
              | .noB1 => { sh.rejects with noB1 := inc32 sh.rejects.noB1 }
              | .noB2 => { sh.rejects with noB2 := inc32 sh.rejects.noB2 }
              | _ => { sh.rejects with edge := inc32 sh.rejects.edge })) unassigned o times) ∧
        (∀ t1 t2 transit, timeRecord r.samples e e.measurementGates = .timed t1 t2 transit →
          let times : EchoTimes := ⟨.some t1, .some t2, .some transit⟩
          (20000 < r.temperature →
            (s.etu[c].heldTemp = .none ∨ e.holdLimit ≤ s.etu[c].holdAge) →
            ended c s.etu[c] channel
              (counted { sh.rejects with noTemperature := inc32 sh.rejects.noTemperature })
              unassigned .noTemperature times) ∧
          (∀ temperature age,
            r.temperature ≤ 20000 ∧ temperature = r.temperature ∧ age = 0 ∨
              20000 < r.temperature ∧ s.etu[c].heldTemp = .some temperature ∧
                s.etu[c].holdAge < e.holdLimit ∧ age = s.etu[c].holdAge + 1 →
            let w := computeWall e (s.velocityTable e) (s.rmeas c e) sh.bank.contraction transit
              temperature
            w.wCold < sh.bank.plausibleMin ∨ sh.bank.plausibleMax < w.wCold →
            ended c { s.etu[c] with heldTemp := .some temperature, holdAge := age }
              { channel with implausible := inc32 channel.implausible }
              (counted { sh.rejects with implausible := inc32 sh.rejects.implausible })
              unassigned .implausible times))))

/-- A reference record that matches its channel's SENT request and whose transit lies within tolerance is
accepted: Rmeas becomes the transit, the unreferenced mark clears, the backlog falls by 1 and not below
0, and the request is gone. Without a matching SENT request it ends LATE_REFERENCE and changes no
reference state. A matching one that cannot be timed ends NO_B1, NO_B2 or EDGE, and one that fails the
tolerance test ends OUT_OF_TOLERANCE, each with REFERENCE_REJECTED, its request gone and the backlog
and reference state unchanged. Each is offered to capture and forwarding with its outcome. -/
def Obligations.ReferenceRecordIsJudged : Prop :=
  (∀ (bytes : List Byte) (f : Frame) (c : Fin 8) (e : ChannelEntry) (t1 t2 transit timeout : Nat)
     (s : State), s.resetHeld = false → s.ali.inLock = true →
     checkFrame .aLink bytes = .passed f → f.kind = 0x11 → s.scs.mode ≠ .unconfigured →
     let r := readShotRecord f.payload
     slotOf r.channel = .some c → enabledEntry s.tbs.active.channels[c] = .some e →
     r.badLength f.payload.length = false → r.kind = 1 →
     s.rfs.channels[c].request = .some ⟨r.tag, .sent timeout⟩ →
     timeRecord r.samples e e.referenceGates = .timed t1 t2 transit →
     transit * 1000000 ≤ e.rnom * 1000000 + e.rnom * e.refTolerance →
     e.rnom * 1000000 ≤ transit * 1000000 + e.rnom * e.refTolerance →
     ∃ t, exec (.shotRecord bytes) s = .next t ∧
       State.OnlyIssues
         { s with
           rfs.channels := s.rfs.channels.set c
             { s.rfs.channels[c] with
               refState := .some ⟨transit, false⟩
               backlog := s.rfs.channels[c].backlog - 1
               request := .none } } t ∧
       t.NoneOwed ∧
       t.etu = s.etu.set c
         { s.etu[c] with
           prevSeq := .some r.sequence, lastOutcome := .some .referenceAccepted } ∧
       s.Offered t c r .referenceAccepted ⟨.some t1, .some t2, .some transit⟩ ∧
       t.counters.channels[c].referencesAccepted =
         inc32 s.counters.channels[c].referencesAccepted ∧
       (∀ g, g ≠ .captureReady → t.flag g = s.flag g) ∧ t.scs = s.scs ∧ t.tru = s.tru ∧
       t.tbs = s.tbs ∧ t.ali.sending = s.ali.sending ∧ t.rpb = s.rpb ∧ t.cmu = s.cmu) ∧
  (∀ (bytes : List Byte) (f : Frame) (c : Fin 8) (e : ChannelEntry) (s : State),
     s.resetHeld = false → s.ali.inLock = true → checkFrame .aLink bytes = .passed f →
     f.kind = 0x11 → s.scs.mode ≠ .unconfigured →
     let r := readShotRecord f.payload
     slotOf r.channel = .some c → enabledEntry s.tbs.active.channels[c] = .some e →
     r.badLength f.payload.length = false → r.kind = 1 →
     let rejected := fun (o : ShotOutcome) (times : EchoTimes) =>
       ∃ t, exec (.shotRecord bytes) s = .next t ∧
         State.OnlyIssues
           { s with
             rfs.channels := s.rfs.channels.set c { s.rfs.channels[c] with request := .none } } t ∧
         t.NoneOwed ∧ t.scs = s.scs ∧
         t.etu = s.etu.set c
           { s.etu[c] with prevSeq := .some r.sequence, lastOutcome := .some o } ∧
         s.Offered t c r o times ∧
         t.counters.channels[c].referencesRejected =
           inc32 s.counters.channels[c].referencesRejected ∧
         t.flag .referenceRejected = (s.flag .referenceRejected).occur .none ∧
         (∀ g, g ≠ .referenceRejected → g ≠ .captureReady → t.flag g = s.flag g)
     ((∀ timeout, s.rfs.channels[c].request ≠ .some ⟨r.tag, .sent timeout⟩) →
       ∃ t, exec (.shotRecord bytes) s = .next t ∧ t.rfs = s.rfs ∧ t.ali = s.ali ∧ t.scs = s.scs ∧
         t.etu = s.etu.set c
           { s.etu[c] with prevSeq := .some r.sequence, lastOutcome := .some .lateReference } ∧
         s.Offered t c r .lateReference ⟨.none, .none, .none⟩ ∧
         t.counters.channels[c].lateReferences = inc32 s.counters.channels[c].lateReferences ∧
         ∀ g, g ≠ .captureReady → t.flag g = s.flag g) ∧
     (∀ timeout, s.rfs.channels[c].request = .some ⟨r.tag, .sent timeout⟩ →
       (∀ o times, timeRecord r.samples e e.referenceGates = .failed o times →
         (o = .noB1 ∨ o = .noB2 ∨ o = .edge) ∧ rejected o times) ∧
       (∀ t1 t2 transit, timeRecord r.samples e e.referenceGates = .timed t1 t2 transit →
         (e.rnom * 1000000 + e.rnom * e.refTolerance < transit * 1000000 ∨
           transit * 1000000 + e.rnom * e.refTolerance < e.rnom * 1000000) →
         rejected .outOfTolerance ⟨.some t1, .some t2, .some transit⟩)))

/-- An accepted shot keeps the account of R98: the accepted total is the sum of the cell counts, the
spill count and the beyond-map count. (The premise on the total is the manual's: it cannot reach its
limit within one shell.) -/
def Obligations.AcceptedTotalIsAccountedFor : Prop :=
  ∀ (shot : Shot) (sh : Shell), sh.map.length = 128 → (∀ row ∈ sh.map, shot.sector < row.length) →
    sh.accepted < 4294967295 → sh.accepted = mapCount sh.map + sh.spill + sh.beyondMap →
    let t := Shell.accept shot sh
    t.accepted = mapCount t.map + t.spill + t.beyondMap ∧ t.accepted = sh.accepted + 1 ∧
      t.wallSum = sh.wallSum + shot.wCold

/-- The velocity of any temperature lies between two velocities of the table, and so within 3000 to
7000 m/s for a table that was loaded. -/
def Obligations.VelocityStaysWithinItsTable : Prop :=
  ∀ (table : VelocityTable) (temperature : Nat), 2 ≤ table.points.length →
    table.points.Pairwise (fun p q => p.temperature < q.temperature) →
    (∃ p ∈ table.points, ∃ q ∈ table.points,
      p.velocity ≤ table.velocityAt temperature ∧ table.velocityAt temperature ≤ q.velocity) ∧
    ((∀ p ∈ table.points, 3000 ≤ p.velocity ∧ p.velocity ≤ 7000) →
      3000 ≤ table.velocityAt temperature ∧ table.velocityAt temperature ≤ 7000)

/-- A zone's eccentricity: present exactly when the covered sectors are at least 1 and at least the
minimum sectors; then the nearest integer, halves up, to 10000 × (Smax − Smin) / (Smax + Smin) of the
largest and smallest sector means, 0 when both are 0, and never above 10000. -/
def Obligations.EccentricityIsRoundedOnce : Prop :=
  ∀ (minSectors : Nat) (row : List Cell),
    let covered := coveredSectors row
    let means := sectorMeans row
    (¬ (1 ≤ covered ∧ minSectors ≤ covered) → eccentricity minSectors row = .none) ∧
    (1 ≤ covered ∧ minSectors ≤ covered → ∃ e high low, eccentricity minSectors row = .some e ∧
      high ∈ means ∧ low ∈ means ∧ (∀ m ∈ means, low ≤ m ∧ m ≤ high) ∧ e ≤ 10000 ∧
      (covered = 1 → e = 0) ∧ (high = low → e = 0) ∧
      (0 < high + low →
        2 * (high + low) * e ≤ 2 * (10000 * (high - low)) + (high + low) ∧
        2 * (10000 * (high - low)) + (high + low) < 2 * (high + low) * (e + 1)) ∧
      (high + low = 0 → e = 0))

/-! ### Tables -/

/-- LOAD CHANNEL, LOAD VELOCITY, LOAD BANK and LOAD LINE in full form, no activation pending and every
field in range: the staged entry named is replaced whole and nothing else of either set; the reply is
DONE with no data. -/
def Obligations.LoadReplacesTheStagedEntry : Prop :=
  ∀ (s : State) (c : Command) (rest : List Command), s.Waits c rest →
    s.tbs.activationPending = false →
    let u := s.replied c rest .done []
    let taken := { s.counters with tbs.loadsTaken := inc32 s.counters.tbs.loadsTaken }
    let channel := readFields channelSpecs c.args
    let velocity := readFields (velocitySpecs (argByte c.args 1)) c.args
    let bank := readFields bankSpecs c.args
    let line := readFields lineSpecs c.args
    (c.code = 0x02 → c.args.length = 44 →
      firstFailure (channelTie channel) 1 channelSpecs channel = .none →
      exec .loadChannel s = .next { u with
        tbs.staged.channels := s.tbs.staged.channels.set (Fin.ofNat 8 (natField channel 1))
          (.some (channelOfFields channel))
        counters := taken }) ∧
    (c.code = 0x03 → 2 ≤ c.args.length → c.args.length = 2 + 4 * argByte c.args 1 →
      firstFailure (velocityTie velocity) 1 (velocitySpecs (argByte c.args 1)) velocity = .none →
      exec .loadVelocity s = .next { u with
        tbs.staged.velocities := s.tbs.staged.velocities.set (Fin.ofNat 4 (natField velocity 1))
          (.some (velocityOfFields velocity))
        counters := taken }) ∧
    (c.code = 0x04 → c.args.length = 34 →
      firstFailure (bankTie bank) 1 bankSpecs bank = .none →
      exec .loadBank s = .next { u with
        tbs.staged.banks := s.tbs.staged.banks.set (Fin.ofNat 4 (natField bank 1))
          (.some (bankOfFields bank))
        counters := taken }) ∧
    (c.code = 0x05 → c.args.length = 20 →
      firstFailure (fun _ => true) 1 lineSpecs line = .none →
      exec .loadLine s = .next { u with
        tbs.staged.line := .some (lineOfFields line), counters := taken })

/-- A full-form load is refused with BUSY while an activation is pending, and otherwise with RANGE and
the ordinal of the first field that lies outside its range or fails its tie; neither changes a table.
The short form makes the staged entry not present, refused with BUSY while an activation is pending and
with RANGE, ordinal 1, for a slot above 7 or an identifier above 3. -/
def Obligations.LoadsAreRefusedOrRemoveEntries : Prop :=
  (∀ (s : State) (c : Command) (rest : List Command), s.Waits c rest →
     let refused := { s.counters with tbs.loadsRefused := inc32 s.counters.tbs.loadsRefused }
     let outcome := fun (row : Instr) (specs : List FieldSpec) (tie : List Int → Nat → Bool) =>
       (s.tbs.activationPending = true →
         exec row s = .next { s.replied c rest .busy [] with counters := refused }) ∧
       (s.tbs.activationPending = false → ∀ n, n < 256 →
         firstFailure (tie (readFields specs c.args)) 1 specs (readFields specs c.args) = .some n →
         exec row s = .next { s.replied c rest .range [BitVec.ofNat 8 n] with counters := refused })
     (c.code = 0x02 → c.args.length = 44 → outcome .loadChannel channelSpecs channelTie) ∧
     (c.code = 0x03 → 2 ≤ c.args.length → c.args.length = 2 + 4 * argByte c.args 1 →
       outcome .loadVelocity (velocitySpecs (argByte c.args 1)) velocityTie) ∧
     (c.code = 0x04 → c.args.length = 34 → outcome .loadBank bankSpecs bankTie) ∧
     (c.code = 0x05 → c.args.length = 20 → outcome .loadLine lineSpecs fun _ _ => true)) ∧
  (∀ (s : State) (c : Command) (rest : List Command) (b : Byte), s.Waits c rest →
     let taken := { s.counters with tbs.loadsTaken := inc32 s.counters.tbs.loadsTaken }
     let refused := { s.counters with tbs.loadsRefused := inc32 s.counters.tbs.loadsRefused }
     let u := { s.replied c rest .done [] with counters := taken }
     let removed := fun (h : State) (limit : Nat) =>
       if s.tbs.activationPending then { s.replied c rest .busy [] with counters := refused }
       else if b.toNat ≤ limit then h
       else { s.replied c rest .range [1] with counters := refused }
     (c.code = 0x02 → c.args = [b] → exec .loadShortForm s = .next (removed
       { u with tbs.staged.channels :=
           s.tbs.staged.channels.set (Fin.ofNat 8 b.toNat) .none } 7)) ∧
     (c.code = 0x03 → c.args = [b] → exec .loadShortForm s = .next (removed
       { u with tbs.staged.velocities :=
           s.tbs.staged.velocities.set (Fin.ofNat 4 b.toNat) .none } 3)) ∧
     (c.code = 0x04 → c.args = [b] → exec .loadShortForm s = .next (removed
       { u with tbs.staged.banks := s.tbs.staged.banks.set (Fin.ofNat 4 b.toNat) .none } 3)) ∧
     (c.code = 0x05 → c.args = [] → exec .loadShortForm s = .next
       (if s.tbs.activationPending then { s.replied c rest .busy [] with counters := refused }
       else { u with tbs.staged.line := .none })))

/-- What a taken load wrote is what READ TABLE reads back, byte for byte: writing the fields of the
entry that well-formed arguments carry gives those arguments (for a channel whose interval is at least
100; a shorter one is raised to 100). -/
def Obligations.TableFieldsReadBackAsLoaded : Prop :=
  ∀ args : List Byte,
    (args.length = 44 → let v := readFields channelSpecs args
      firstFailure (channelTie v) 1 channelSpecs v = .none → 100 ≤ natField v 18 →
      writeFields channelSpecs ((channelOfFields v).fields (natField v 1)) = args) ∧
    (2 ≤ args.length → args.length = 2 + 4 * argByte args 1 →
      let specs := velocitySpecs (argByte args 1)
      let v := readFields specs args
      firstFailure (velocityTie v) 1 specs v = .none →
      writeFields (velocitySpecs (velocityOfFields v).points.length)
        ((velocityOfFields v).fields (natField v 1)) = args) ∧
    (args.length = 34 → let v := readFields bankSpecs args
      firstFailure (bankTie v) 1 bankSpecs v = .none →
      writeFields bankSpecs ((bankOfFields v).fields (natField v 1)) = args) ∧
    (args.length = 20 → let v := readFields lineSpecs args
      firstFailure (fun _ => true) 1 lineSpecs v = .none →
      writeFields lineSpecs (lineOfFields v).fields = args)

/-- READ TABLE answers with the set, kind and index asked, the generation, the pending mark, the present
mark and the fields of a present entry, or with RANGE; and it changes nothing. -/
def Obligations.ReadTableShowsAnEntry : Prop :=
  ∀ (s : State) (c : Command) (rest : List Command) (set kind index : Byte), s.Waits c rest →
    c.code = 0x06 → c.args = [set, kind, index] →
    let tables := if set = 0 then s.tbs.staged else s.tbs.active
    let head := [set, kind, index] ++ be 4 s.tbs.generation ++ beBool s.tbs.activationPending
    let shown := fun entry : Option (List Byte) =>
      exec .readTable s = .next (s.replied c rest .done
        (head ++ match entry with | .none => [0] | .some bytes => 1 :: bytes))
    (2 ≤ set.toNat ∨ 4 ≤ kind.toNat ∨ (kind = 0 ∧ 8 ≤ index.toNat) ∨
        ((kind = 1 ∨ kind = 2) ∧ 4 ≤ index.toNat) →
      exec .readTable s = .next (s.replied c rest .range [])) ∧
    (set.toNat < 2 →
      (∀ i : Fin 8, kind = 0 → index.toNat = i.val → shown
        (tables.channels[i].map fun e => writeFields channelSpecs (e.fields i.val))) ∧
      (∀ i : Fin 4, kind = 1 → index.toNat = i.val → shown
        (tables.velocities[i].map fun v =>
          writeFields (velocitySpecs v.points.length) (v.fields i.val))) ∧
      (∀ i : Fin 4, kind = 2 → index.toNat = i.val → shown
        (tables.banks[i].map fun b => writeFields bankSpecs (b.fields i.val))) ∧
      (kind = 3 → shown (tables.line.map fun l => writeFields lineSpecs l.fields)))

/-- ACTIVATE is refused with BUSY while an activation is pending, and with INCONSISTENT, a reason and a
channel, when the staged set lacks the line setup, an enabled channel, or a velocity table that an
enabled channel names. While a shell is in the ring a sound set makes the activation pending. -/
def Obligations.ActivateIsCheckedAndMayWait : Prop :=
  ∀ (s : State) (c : Command) (rest : List Command), s.Waits c rest → c.code = 0x07 → c.args = [] →
    let staged := s.tbs.staged
    let on := fun i : Fin 8 => enabledEntry staged.channels[i]
    let refused := fun reason channel : Byte =>
      exec .activate s = .next
        { s.replied c rest .inconsistent [reason, channel] with
          counters.tbs.activationsRefused := inc32 s.counters.tbs.activationsRefused }
    let lacks := fun i : Fin 8 => ∃ e, on i = .some e ∧
      ∀ v : Fin 4, e.velocityTable = v.val → staged.velocities[v] = .none
    (s.tbs.activationPending = true → exec .activate s = .next (s.replied c rest .busy [])) ∧
    (s.tbs.activationPending = false →
      (staged.line = .none → refused 1 255) ∧
      (staged.line ≠ .none → (∀ i, on i = .none) → refused 2 255) ∧
      (staged.line ≠ .none → ∀ i : Fin 8, lacks i → (∀ j : Fin 8, j < i → ¬ lacks j) →
        refused 3 (BitVec.ofNat 8 i.val)) ∧
      (staged.line ≠ .none → (∃ i, on i ≠ .none) → (∀ i, ¬ lacks i) → s.gauging = true →
        exec .activate s = .next
          { s.replied c rest .done (be 1 0 ++ be 4 s.tbs.generation) with
            tbs.activationPending := true }))

/-- ACTIVATE with a sound set and no shell in the ring is applied at once: the active set becomes the
staged set, the generation advances, UNCONFIGURED becomes STANDBY, TABLES_ACTIVATED is raised, and each
channel's references follow the class of its change, the outstanding request of a channel newly disabled
or of changed reference parameters being cancelled and counted and its queued frame withdrawn. A changed
polarity, or the first activation, makes a present debounce timer absent and starts a departure afresh;
the contexts, the length and the detector level stand. -/
def Obligations.ActivateAppliesTheStagedSet : Prop :=
  ∀ (s : State) (c : Command) (rest : List Command), s.Waits c rest → c.code = 0x07 → c.args = [] →
    s.tbs.activationPending = false → s.tbs.staged.inconsistency = .none → s.gauging = false →
    let generation := if s.tbs.generation = 4294967295 then 1 else s.tbs.generation + 1
    let before := fun i : Fin 8 => enabledEntry s.tbs.active.channels[i]
    let after := fun i : Fin 8 => enabledEntry s.tbs.staged.channels[i]
    let loses : Fin 8 → Bool := fun i => match before i, after i with
      | .some _, .none => true
      | .some a, .some b => decide (a.referenceParameters ≠ b.referenceParameters)
      | .none, _ => false
    ∃ t, exec .activate s = .next t ∧
      t.tbs = { s.tbs with
        active := s.tbs.staged, generation := generation, activeValid := true
        activationPending := false } ∧
      t.cmu = (s.replied c rest .done (be 1 1 ++ be 4 generation)).cmu ∧
      t.scs = (if s.scs.mode = .unconfigured then
          { s.scs with mode := .standby, parkRequest := false, drainTimer := .none }
        else s.scs) ∧
      t.flag .tablesActivated = (s.flag .tablesActivated).occur .none ∧
      (∀ g, g ≠ .tablesActivated → t.flag g = s.flag g) ∧
      t.counters.tbs.activationsApplied = inc32 s.counters.tbs.activationsApplied ∧
      (∀ i : Fin 8,
        (before i = .none → after i = .none → t.rfs.channels[i] = s.rfs.channels[i] ∧
          t.etu[i] = s.etu[i]) ∧
        (∀ e, before i = .some e → after i = .none → t.rfs.channels[i] = ⟨.none, 0, .none, .none⟩ ∧
          t.etu[i] = { s.etu[i] with prevSeq := .none, heldTemp := .none, holdAge := 0 }) ∧
        (∀ e, before i = .none → after i = .some e → t.rfs.channels[i].backlog = 8 ∧
          t.rfs.channels[i].refState = .some ⟨e.rnom, true⟩ ∧
          t.rfs.channels[i].interval = .some e.refInterval ∧
          t.etu[i] = { s.etu[i] with prevSeq := .none, heldTemp := .none, holdAge := 0 }) ∧
        (∀ a b, before i = .some a → after i = .some b → t.etu[i] = s.etu[i] ∧
          (a.referenceParameters ≠ b.referenceParameters → t.rfs.channels[i].backlog = 8 ∧
            t.rfs.channels[i].refState = .some ⟨b.rnom, true⟩ ∧
            t.rfs.channels[i].interval = .some b.refInterval) ∧
          (a.referenceParameters = b.referenceParameters →
            t.rfs.channels[i].backlog = s.rfs.channels[i].backlog ∧
            t.rfs.channels[i].refState = s.rfs.channels[i].refState ∧
            t.rfs.channels[i].interval = (if a.refInterval ≠ b.refInterval then
              .some b.refInterval else s.rfs.channels[i].interval))) ∧
        IssuedOver (if loses i then .none else s.rfs.channels[i].request)
          t.rfs.channels[i].request ∧
        t.counters.channels[i].requestsCancelled =
          (if loses i = true ∧ s.rfs.channels[i].request.isSome = true then
            inc32 s.counters.channels[i].requestsCancelled
          else s.counters.channels[i].requestsCancelled)) ∧
      (s.RequestsQueued → ∃ l, (∀ a ∈ l, a.isRequest = true) ∧
        t.ali = { s.ali with
          outQueue := s.ali.outQueue.filter (fun a => match a with
            | .request i _ => !loses i
            | .relayed _ => true) ++ l }) ∧
      t.DetectorFollows s.tbs.active.line s.tru ∧
      t.NoneOwed ∧ t.tru.lengthCounter = s.tru.lengthCounter ∧
      t.tru.detectorLevel = s.tru.detectorLevel ∧ t.rpb = s.rpb ∧ t.ldu = s.ldu ∧ t.mli = s.mli ∧
      t.pins = s.pins

/-- SELECT BANK sets the selected bank in every mode, with an activation pending or not, and refuses an
identifier above 3 with RANGE; it changes nothing else. -/
def Obligations.SelectBankSetsTheBank : Prop :=
  ∀ (s : State) (c : Command) (rest : List Command) (b : Byte), s.Waits c rest → c.code = 0x08 →
    c.args = [b] →
    (∀ bank : Fin 4, b.toNat = bank.val → exec .selectBank s = .next
      { s.replied c rest .done [] with tbs.selectedBank := bank }) ∧
    (4 ≤ b.toNat → exec .selectBank s = .next (s.replied c rest .range []))

/-! ### Commands -/

/-- IDENTIFY is answered DONE with its 8 bytes in every mode, FORMAT when it carries arguments, and
changes nothing. -/
def Obligations.IdentifyAnswersEightBytes : Prop :=
  ∀ (s : State) (c : Command) (rest : List Command), s.Waits c rest → c.code = 0x01 →
    exec .identify s = .next
      (if c.args = [] then
        s.replied c rest .done [0x49, 0x02, 0x08, 0x01, 0x08, 0x04, 0x10, 0x00]
      else s.replied c rest .format [])

/-- A code that names no command gets UNKNOWN, whatever it carries; neither that nor an argument length
the command does not accept changes anything but the two queues, and the latter gets FORMAT. -/
def Obligations.UnknownAndMisshapenCommandsChangeNothing : Prop :=
  ∀ (s : State) (c : Command) (rest : List Command), s.Waits c rest →
    (c.code = 0x00 ∨ 0x16 < c.code.toNat →
      exec .unknownCommand s = .next (s.replied c rest .unknown [])) ∧
    (c.lengthFits = false → exec c.row s = .next (s.replied c rest .format []))

/-- A head-end, from the detector or from FORCE HEAD, in UNCONFIGURED is ignored and counted. Elsewhere,
with no FREE context, it reclaims the oldest COMPLETE context that is not being streamed, with
REPORT_LOST; with none to reclaim, or with no bank present or the numbers exhausted, its shell is
missed, takes no number and leaves the other contexts and the mode as they stand. -/
def Obligations.HeadEndIgnoredReclaimingOrMissed : Prop :=
  (∀ (s u : State) (row : Instr), s.HeadEndFrom row u → s.scs.mode = .unconfigured →
     exec row s = .next
       { u with counters.scs.headEndsIgnored := inc32 s.counters.scs.headEndsIgnored }) ∧
  (∀ (s u : State) (row : Instr), s.HeadEndFrom row u →
     s.scs.mode ≠ .unconfigured → (∀ j, s.holds Shell.isOpen j = false) →
     s.tbs.activationPending = false → s.ModeAgrees →
     let reclaimable := fun sh : Shell => sh.isComplete && !s.streamed sh
     let bindable := s.scs.nextSequence ≠ 0 ∧ s.tbs.active.banks[s.tbs.selectedBank] ≠ .none
     ∃ t, exec row s = .next t ∧ t.cmu = u.cmu ∧ t.tbs = s.tbs ∧
       t.tru = u.tru ∧ t.counters.tru = u.counters.tru ∧ t.etu = s.etu ∧ t.rpb = s.rpb ∧
       t.ldu = s.ldu ∧
       (((∃ i : Fin 4, s.scs.contexts[i] = .none) ∧ ¬ bindable ∨
         (∀ i : Fin 4, s.scs.contexts[i] ≠ .none) ∧ (∀ i, s.holds reclaimable i = false)) →
         t.scs = s.scs ∧ t.flag .shellMissed = (s.flag .shellMissed).occur .none ∧
         (∀ g, g ≠ .shellMissed → t.flag g = s.flag g) ∧
         t.counters.scs = { s.counters.scs with shellsMissed := inc32 s.counters.scs.shellsMissed }) ∧
       (∀ (i : Fin 4) (old : Shell), (∀ k : Fin 4, s.scs.contexts[k] ≠ .none) →
         s.scs.contexts[i] = .some old → reclaimable old = true →
         (∀ (k : Fin 4) (sh : Shell), s.scs.contexts[k] = .some sh → reclaimable sh = true →
           k ≠ i → old.sequence < sh.sequence) →
         t.flag .reportLost = (s.flag .reportLost).occur (.some old.sequence) ∧
         t.counters.scs.reportsLost = inc32 s.counters.scs.reportsLost ∧
         (bindable → ∃ sh : Shell, t.scs.contexts = s.scs.contexts.set i (.some sh) ∧
           sh.sequence = s.scs.nextSequence ∧ sh.isOpen = true ∧ t.scs.mode = .measuring) ∧
         (¬ bindable → t.scs = { s.scs with contexts := s.scs.contexts.set i .none } ∧
           t.flag .shellMissed = (s.flag .shellMissed).occur .none)))

/-- PARK by mode: STATE in UNCONFIGURED; from STANDBY the mode becomes PARKING with the request set and
the drain timer loaded, and the drained report is sent at once when its condition holds; in MEASURING
the request is set; in PARKING and PARKED nothing changes. UNPARK by mode: STATE in UNCONFIGURED,
nothing in STANDBY, the request cleared in MEASURING, and from PARKING and PARKED to STANDBY with the
request cleared and the drain timer absent; leaving PARKED raises PARK_STATE, and without
keep-reference raises every enabled backlog to at least 12. The replies show mode and request. (The
count of drained reports is the model's, log 9.) -/
def Obligations.ParkAndUnparkActByMode : Prop :=
  (∀ (s : State) (c : Command) (rest : List Command), s.Waits c rest → c.code = 0x0B → c.args = [] →
     (s.scs.mode = .unconfigured → exec .park s = .next (s.replied c rest .state [])) ∧
     (s.scs.mode = .standby → s.NoneOwed → ∃ t, exec .park s = .next t ∧
       t.scs = { s.scs with
         mode := .parking, parkRequest := true
         drainTimer := .some (s.lineField (·.parkDrainLimit)) } ∧
       t.cmu = (s.replied c rest .done [3, 1]).cmu ∧ t.rfs.channels = s.rfs.channels ∧
       t.rfs.drainReports = s.rfs.drainReports +
         (if ∀ i : Fin 8, s.enabled i = true → s.rfs.channels[i].backlog = 0 ∧
           s.rfs.channels[i].request = .none then 1 else 0) ∧
       t.ali = s.ali ∧ t.evu = s.evu ∧ t.etu = s.etu ∧ t.tru = s.tru ∧ t.tbs = s.tbs ∧
       t.counters = s.counters ∧ t.mli = s.mli) ∧
     (s.scs.mode = .measuring → exec .park s = .next
       { s.replied c rest .done [2, 1] with scs.parkRequest := true }) ∧
     (s.scs.mode = .parking → s.scs.parkRequest = true →
       exec .park s = .next (s.replied c rest .done [3, 1])) ∧
     (s.scs.mode = .parked → s.scs.parkRequest = true →
       exec .park s = .next (s.replied c rest .done [4, 1]))) ∧
  (∀ (s : State) (c : Command) (rest : List Command), s.Waits c rest → c.code = 0x0C → c.args = [] →
     s.ParkAgrees →
     (s.scs.mode = .unconfigured → exec .unpark s = .next (s.replied c rest .state [])) ∧
     (s.scs.mode = .standby → exec .unpark s = .next (s.replied c rest .done [1, 0])) ∧
     (s.scs.mode = .measuring → exec .unpark s = .next
       { s.replied c rest .done [2, 0] with scs.parkRequest := false }) ∧
     (s.scs.mode = .parking ∨ s.scs.mode = .parked → ∃ t, exec .unpark s = .next t ∧
       t.scs = { s.scs with mode := .standby, parkRequest := false, drainTimer := .none } ∧
       t.cmu = (s.replied c rest .done [1, 0]).cmu ∧
       t.flag .parkState = (if s.scs.mode = .parked then (s.flag .parkState).occur .none
         else s.flag .parkState) ∧
       (∀ g, g ≠ .parkState → g ≠ .referenceOverdue → t.flag g = s.flag g) ∧
       (∀ i : Fin 8,
         let raised := s.scs.mode = .parked ∧ s.keepReference = false ∧ s.enabled i = true
         t.rfs.channels[i].backlog = (if raised then max s.rfs.channels[i].backlog 12
           else s.rfs.channels[i].backlog) ∧
         t.rfs.channels[i].interval =
           (if raised then (enabledEntry s.tbs.active.channels[i]).map (·.refInterval)
             else s.rfs.channels[i].interval) ∧
         t.rfs.channels[i].refState = s.rfs.channels[i].refState) ∧
       t.NoneOwed ∧ t.etu = s.etu ∧ t.tru = s.tru ∧ t.tbs = s.tbs ∧ t.rpb = s.rpb ∧
       t.ldu = s.ldu ∧ t.mli = s.mli ∧ t.pins = s.pins))

/-- FETCH REPORT: RANGE for a selector above 1 or a detail above 2, then BUSY while a stream runs, then
NOT_FOUND or STATE for what it selects; a COMPLETE context, the oldest or the one named, is streamed
from frame 0, and the reply gives its number, the detail and the frame count. RELEASE REPORT: NOT_FOUND
for a number no context holds, STATE for a context that is OPEN, CLOSING or being streamed, and DONE
for a COMPLETE one, which becomes FREE and is counted. -/
def Obligations.ReportsAreFetchedAndReleased : Prop :=
  (∀ (s : State) (c : Command) (rest : List Command) (kind q3 q2 q1 q0 detail : Byte),
     s.Waits c rest → c.code = 0x0D → c.args = [kind, q3, q2, q1, q0, detail] →
     let sequence := ((q3.toNat * 256 + q2.toNat) * 256 + q1.toNat) * 256 + q0.toNat
     let refused := fun status => exec .fetchReport s = .next (s.replied c rest status [])
     let level : Detail := if detail = 0 then .summary else if detail = 1 then .zones else .full
     let streamed := fun sh : Shell => exec .fetchReport s = .next
       { s.replied c rest .done (be 4 sh.sequence ++ [detail] ++ be 2 (sh.frameCount level)) with
         rpb := .some ⟨sh.sequence, level, sh.frameCount level, 0⟩
         counters.rpb.reportsFetched := inc32 s.counters.rpb.reportsFetched }
     (1 < kind.toNat ∨ 2 < detail.toNat → refused .range) ∧
     (kind.toNat ≤ 1 → detail.toNat ≤ 2 →
       (s.rpb ≠ .none → refused .busy) ∧
       (s.rpb = .none → kind = 0 →
         ((∀ i, s.holds Shell.isComplete i = false) → refused .notFound) ∧
         (∀ (i : Fin 4) (sh : Shell), s.scs.contexts[i] = .some sh → sh.isComplete = true →
           (∀ (j : Fin 4) (other : Shell), s.scs.contexts[j] = .some other →
             other.isComplete = true → j ≠ i → sh.sequence < other.sequence) → streamed sh)) ∧
       (s.rpb = .none → kind = 1 → s.SequencesOrdered →
         ((∀ (i : Fin 4) (sh : Shell), s.scs.contexts[i] = .some sh → sh.sequence ≠ sequence) →
           refused .notFound) ∧
         (∀ (i : Fin 4) (sh : Shell), s.scs.contexts[i] = .some sh → sh.sequence = sequence →
           (sh.isComplete = false → refused .state) ∧ (sh.isComplete = true → streamed sh))))) ∧
  (∀ (s : State) (c : Command) (rest : List Command) (q3 q2 q1 q0 : Byte), s.Waits c rest →
     c.code = 0x0E → c.args = [q3, q2, q1, q0] → s.SequencesOrdered →
     let sequence := ((q3.toNat * 256 + q2.toNat) * 256 + q1.toNat) * 256 + q0.toNat
     ((∀ (i : Fin 4) (sh : Shell), s.scs.contexts[i] = .some sh → sh.sequence ≠ sequence) →
       exec .releaseReport s = .next (s.replied c rest .notFound [])) ∧
     (∀ (i : Fin 4) (sh : Shell), s.scs.contexts[i] = .some sh → sh.sequence = sequence →
       let streamed := ∃ st, s.rpb = .some st ∧ st.sequence = sequence
       (sh.isComplete = false ∨ streamed →
         exec .releaseReport s = .next (s.replied c rest .state [])) ∧
       (sh.isComplete = true → ¬ streamed → exec .releaseReport s = .next
         { s.replied c rest .done [] with
           scs.contexts := s.scs.contexts.set i .none
           counters.scs.reportsReleased := inc32 s.counters.scs.reportsReleased })))

/-- READ SNAPSHOT answers the items of R159 in their order and clears the interval statistics; every
other item is left as it stands. -/
def Obligations.SnapshotIsFormedAndCleared : Prop :=
  ∀ (s : State) (c : Command) (rest : List Command), s.Waits c rest → c.code = 0x0F → c.args = [] →
    let length := s.tru.lengthCounter / 1000
    let opened := match s.openContext with
      | .none => List.replicate 10 0
      | .some i =>
        1 :: be 4 (s.sequenceAt i) ++ 1 :: beSigned 4 ((length : Int) -
          ((s.scs.contexts[i].map (·.headMark)).getD 0 : Nat) - (s.lineField (·.ringOffset) : Nat))
    let channel := fun i : Fin 8 =>
      beBool (s.enabled i) ++ beOpt 4 s.ldu.lastWCold[i] ++
        beOpt 1 (s.etu[i].lastOutcome.map (·.code)) ++ be 1 s.rfs.channels[i].backlog ++
        beBool (s.enabled i && (s.rfs.channels[i].refState.any (·.unreferenced) ||
          decide (12 ≤ s.rfs.channels[i].backlog)))
    exec .readSnapshot s = .next
      { s.replied c rest .done
          (be 1 s.scs.mode.code ++ beBool s.scs.parkRequest ++ be 4 s.tbs.generation ++
            beBool s.tbs.activationPending ++ be 1 s.tbs.selectedBank.val ++ opened ++ be 6 length ++
            channel 0 ++ channel 1 ++ channel 2 ++ channel 3 ++ channel 4 ++ channel 5 ++
            channel 6 ++ channel 7 ++ be 4 s.ldu.interval.count ++ beOpt 4 s.ldu.interval.min ++
            beOpt 4 s.ldu.interval.max) with
        ldu.interval := ⟨0, .none, .none⟩ }

/-- ARM CAPTURE empties the buffer and takes its target, or gets RANGE and leaves the capture; READ
CAPTURE gets STATE without a captured record, RANGE from the segment count on, and otherwise the
segment, 256 samples from sample 256 × i, and changes nothing. -/
def Obligations.CaptureIsArmedAndRead : Prop :=
  ∀ (s : State) (c : Command) (rest : List Command), s.Waits c rest →
    (∀ channel filter condition : Byte, c.code = 0x10 → c.args = [channel, filter, condition] →
      (8 ≤ channel.toNat ∨ 3 ≤ filter.toNat ∨ 2 ≤ condition.toNat →
        exec .armCapture s = .next (s.replied c rest .range [])) ∧
      (∀ i : Fin 8, channel.toNat = i.val → filter.toNat ≤ 2 → condition.toNat ≤ 1 →
        exec .armCapture s = .next
          { s.replied c rest .done [] with
            ldu.capture := .armed i
              (if filter = 0 then .measure else if filter = 1 then .reference else .any)
              (if condition = 0 then .next else .nextRejected) })) ∧
    (∀ high low : Byte, c.code = 0x11 → c.args = [high, low] →
      ((∀ r o t, s.ldu.capture ≠ .captured r o t) →
        exec .readCapture s = .next (s.replied c rest .state [])) ∧
      (∀ r o t, s.ldu.capture = .captured r o t →
        let i := high.toNat * 256 + low.toNat
        let segments := (r.sampleCount + 255) / 256
        let samples := (r.samples.drop (256 * i)).take 256
        (segments ≤ i → exec .readCapture s = .next (s.replied c rest .range [])) ∧
        (i < segments → exec .readCapture s = .next (s.replied c rest .done
          (be 2 i ++ be 2 segments ++
            be 1 ((if i = 0 then 1 else 0) + (if i + 1 = segments then 2 else 0)) ++
            (be 1 r.channel ++ be 1 r.kind ++ be 1 r.tag ++ be 2 r.sequence ++
              be 2 r.temperature ++ be 2 r.sampleCount) ++ be 1 o.code ++ beOpt 4 t.t1 ++
            beOpt 4 t.t2 ++ beOpt 4 t.transit ++ be 2 samples.length ++
            (samples.map (beSigned 2)).flatten)))))

/-- READ EVENTS answers the set flags, the mask, the eighteen counts and the eighteen latest sequences,
and changes nothing; it carries no arguments, and gets FORMAT with any. -/
def Obligations.ReadEventsChangesNothing : Prop :=
  ∀ (s : State) (c : Command) (rest : List Command), s.Waits c rest → c.code = 0x12 →
    (c.args ≠ [] → exec .readEvents s = .next (s.replied c rest .format [])) ∧
    (c.args = [] → ∃ set mask : Nat, exec .readEvents s = .next (s.replied c rest .done
        (digits 3 set ++ digits 3 mask ++ (allFlags.map fun f => be 1 (s.flag f).count).flatten ++
          (allFlags.map fun f => beOpt 4 (s.flag f).latest).flatten)) ∧
      set < 2 ^ 18 ∧ mask < 2 ^ 18 ∧
      ∀ f : Machine.Flag, set.testBit f.index.val = (s.flag f).isSet ∧
        mask.testBit f.index.val = (s.flag f).enabled)

/-- CLEAR EVENTS clears each flag named, with its count and latest sequence, and shows the counts it
cleared; flags not named, the mask and the queued notices stand; a set with a bit above 17 gets RANGE. -/
def Obligations.ClearEventsClearsNamedFlags : Prop :=
  ∀ (s : State) (c : Command) (rest : List Command) (high mid low : Byte), s.Waits c rest →
    c.code = 0x13 → c.args = [high, mid, low] →
    let named := (high.toNat * 256 + mid.toNat) * 256 + low.toNat
    (2 ^ 18 ≤ named → exec .clearEvents s = .next (s.replied c rest .range [])) ∧
    (named < 2 ^ 18 → ∃ t, exec .clearEvents s = .next t ∧
      (∀ f : Machine.Flag, t.flag f =
        if named.testBit f.index.val then ⟨false, 0, .none, (s.flag f).enabled⟩ else s.flag f) ∧
      t = { s.replied c rest .done (allFlags.map fun f =>
          be 1 (if named.testBit f.index.val then (s.flag f).count else 0)).flatten with
        evu.flags := t.evu.flags })

/-- SET EVENT MASK replaces the mask whole and answers the previous one; each set flag whose mark goes
from clear to set forms a notice with its present count and sequence, in flag order, offered to its
class queue; the flags stand. A mask with a bit above 17 gets RANGE. -/
def Obligations.SetEventMaskReplacesTheMask : Prop :=
  ∀ (s : State) (c : Command) (rest : List Command) (high mid low : Byte), s.Waits c rest →
    c.code = 0x14 → c.args = [high, mid, low] →
    let new := (high.toNat * 256 + mid.toNat) * 256 + low.toNat
    let formed := fun urgent : Bool => (allFlags.filter fun f => f.urgent == urgent &&
        (s.flag f).isSet && !(s.flag f).enabled && new.testBit f.index.val).map fun f =>
      (⟨f, (s.flag f).count, (s.flag f).latest⟩ : Notice)
    (2 ^ 18 ≤ new → exec .setEventMask s = .next (s.replied c rest .range [])) ∧
    (new < 2 ^ 18 → s.evu.urgent.length ≤ 16 → s.evu.routine.length ≤ 16 →
      ∃ t, exec .setEventMask s = .next t ∧
      (∀ f : Machine.Flag, t.flag f = { s.flag f with enabled := new.testBit f.index.val }) ∧
      t.evu.urgent = s.evu.urgent ++ (formed true).take (16 - s.evu.urgent.length) ∧
      t.evu.routine = s.evu.routine ++ (formed false).take (16 - s.evu.routine.length) ∧
      t.cmu = (s.replied c rest .done (flagSet fun f => (s.flag f).enabled)).cmu ∧
      t = { s with cmu := t.cmu, evu := t.evu, counters := { s.counters with evu := t.counters.evu } })

/-- READ COUNTERS answers the 121 counters in their order and the length counter, 490 bytes, and with
the option byte 1 clears the counters and not the length; an option above 1 gets RANGE. -/
def Obligations.ReadCountersAnswersThemAll : Prop :=
  ∀ (s : State) (c : Command) (rest : List Command), s.Waits c rest → c.code = 0x15 →
    ∃ data : List Byte, data.length = 490 ∧
      data = (s.counters.list.map (be 4)).flatten ++ be 6 s.tru.lengthCounter ∧
      (c.args = [] ∨ c.args = [0] → exec .readCounters s = .next (s.replied c rest .done data)) ∧
      (c.args = [1] → ∃ t, exec .readCounters s = .next t ∧
        t = { s.replied c rest .done data with counters := t.counters } ∧
        t.counters.list = List.replicate 121 0) ∧
      (∀ b : Byte, 1 < b.toNat → c.args = [b] →
        exec .readCounters s = .next (s.replied c rest .range []))

/-- RESTART: the shells, queues, flags, counters and the channels' sequences and temperatures go; the
tables, generation, selected bank, length, detector, references, lock states, mask and the frames being
sent stay; outstanding requests are cancelled and an interval counter that was stopped is reloaded; the
mode becomes STANDBY when the active set is valid and UNCONFIGURED otherwise, with the park request
clear and the drain timer absent; the channels are examined, the tag counter going on from where it
stood; and the reply, the mode code, stands alone in the reply queue. That a drained
report not yet taken is forgotten is the model's choice (log 9). -/
def Obligations.RestartKeepsTheTables : Prop :=
  ∀ (s : State) (c : Command) (rest : List Command), s.Waits c rest → c.code = 0x16 → c.args = [] →
    let mode : Mode := if s.tbs.activeValid then .standby else .unconfigured
    ∃ t, exec .restart s = .next t ∧
      t.scs = ⟨Vector.replicate 4 .none, 1, mode, false, .none⟩ ∧
      t.tbs = { s.tbs with activationPending := false } ∧ t.tru = s.tru ∧ t.pins = s.pins ∧
      t.cmu = ⟨[], [⟨c.tag, c.code, .done, [if s.tbs.activeValid then 1 else 0]⟩]⟩ ∧
      t.rpb = .none ∧ t.ldu = ⟨[], Vector.replicate 8 .none, ⟨0, .none, .none⟩, .idle⟩ ∧
      t.mli = { s.mli with relayQueue := [], forwardQueue := [] } ∧
      t.ali.inLock = s.ali.inLock ∧ t.ali.sending = s.ali.sending ∧
      (∀ a ∈ t.ali.outQueue, a.isRequest = true) ∧
      (s.rfs.tagCounter < 256 →
        t.rfs.tagCounter = (s.rfs.tagCounter + t.ali.outQueue.length) % 256) ∧
      t.rfs.drainReports = 0 ∧
      (∀ f : Machine.Flag, t.flag f = ⟨false, 0, .none, (s.flag f).enabled⟩) ∧
      t.evu.urgent = [] ∧ t.evu.routine = [] ∧ t.attn = false ∧
      (∀ i : Fin 8, t.etu[i] = ⟨.none, .none, 0, .none⟩ ∧
        t.rfs.channels[i].backlog = s.rfs.channels[i].backlog ∧
        t.rfs.channels[i].refState = s.rfs.channels[i].refState ∧
        t.rfs.channels[i].interval =
          (if s.intervalsRun = false ∧ s.enabled i = true then
            (enabledEntry s.tbs.active.channels[i]).map (·.refInterval)
          else s.rfs.channels[i].interval) ∧
        (t.rfs.channels[i].request = .none ∨
          ∃ tag, t.rfs.channels[i].request = .some ⟨tag, .queued⟩) ∧
        t.counters.channels[i] =
          ⟨0, 0, 0, 0, if t.rfs.channels[i].request = .none then 0 else 1, 0, 0, 0, 0, 0⟩) ∧
      t.counters.aLink.list = List.replicate 8 0 ∧ t.counters.mLink.list = List.replicate 10 0 ∧
      t.counters.tru.list = List.replicate 4 0 ∧ t.counters.scs.list = List.replicate 7 0 ∧
      t.counters.rpb.list = List.replicate 3 0 ∧ t.counters.tbs.list = List.replicate 4 0 ∧
      t.counters.ldu.list = List.replicate 3 0 ∧ t.counters.evu.list = List.replicate 2 0 ∧
      t.NoneOwed
end

