-- ==== Sys2Proof/Laws/Bytes.lean ====
section
/-! SUPPORT. Numbers as bytes and back (R174): lengths, the round trip of a field, and the bits of a set
of flags. -/

namespace Sys2Proof.Laws

open Sys2Proof.Machine

/-! ### Lengths -/

@[simp] theorem digits_length (w n : Nat) : (digits w n).length = w := by
  induction w with
  | zero => rfl
  | succ w ih => simp [digits, ih]

@[simp] theorem be_length (w n : Nat) : (be w n).length = w := by unfold be; split <;> simp

@[simp] theorem beSigned_length (w : Nat) (i : Int) : (beSigned w i).length = w := by
  unfold beSigned; split <;> simp

@[simp] theorem beBool_length (b : Bool) : (beBool b).length = 1 := rfl

@[simp] theorem beOpt_length (w : Nat) (o : Option Nat) : (beOpt w o).length = w + 1 := by
  cases o <;> simp [beOpt, presence]

/-- A field whose value fits carries its digits. -/
theorem be_fits {w n : Nat} (h : n < 256 ^ w) : be w n = digits w n := by simp [be, h]

/-- A field of one byte. -/
theorem be_one {n : Nat} (h : n < 256) : be 1 n = [BitVec.ofNat 8 n] := by
  rw [be_fits (by simpa using h)]; simp [digits]

/-! ### Reading bytes -/

theorem ofBytes_append (l : List Byte) (b : Byte) : ofBytes (l ++ [b]) = ofBytes l * 256 + b.toNat := by
  simp [ofBytes]

theorem ofBytes_cons (b : Byte) (l : List Byte) :
    ofBytes (b :: l) = b.toNat * 256 ^ l.length + ofBytes l := by
  induction l using List.reverseRecOn with
  | nil => simp [ofBytes]
  | append_singleton l c ih =>
    rw [← List.cons_append, ofBytes_append, ofBytes_append, ih, List.length_append,
      List.length_singleton, Nat.pow_succ]
    ring

theorem ofBytes_lt (l : List Byte) : ofBytes l < 256 ^ l.length := by
  induction l with
  | nil => simp [ofBytes]
  | cons b l ih =>
    rw [ofBytes_cons, List.length_cons, Nat.pow_succ]
    have hb : b.toNat ≤ 255 := by have := b.isLt; omega
    calc b.toNat * 256 ^ l.length + ofBytes l
        < b.toNat * 256 ^ l.length + 256 ^ l.length := by omega
      _ ≤ 255 * 256 ^ l.length + 256 ^ l.length :=
          Nat.add_le_add_right (Nat.mul_le_mul_right _ hb) _
      _ = 256 ^ l.length * 256 := by ring

theorem ofBytes_digits (w n : Nat) : ofBytes (digits w n) = n % 256 ^ w := by
  induction w with
  | zero => simp [digits, ofBytes, Nat.mod_one]
  | succ w ih =>
    rw [digits, ofBytes_cons, digits_length, ih, BitVec.toNat_ofNat, pow_succ 256 w,
      @Nat.mod_mul (256 ^ w) 256 n]
    ring

/-- Bytes are the digits of the number they carry. -/
theorem digits_ofBytes (l : List Byte) : digits l.length (ofBytes l) = l := by
  induction l with
  | nil => rfl
  | cons b l ih =>
    have low : ∀ w n k : Nat, digits w (k * 256 ^ w + n) = digits w n := by
      intro w
      induction w with
      | zero => intros; rfl
      | succ w ih =>
        intro n k
        have e : k * 256 ^ (w + 1) + n = k * 256 * 256 ^ w + n := by ring
        rw [digits, digits, e, ih n (k * 256), Nat.add_comm (k * 256 * 256 ^ w),
          Nat.add_mul_div_right _ _ (by positivity)]
        congr 1
        apply BitVec.eq_of_toNat_eq
        simp
    have top : (b.toNat * 256 ^ l.length + ofBytes l) / 256 ^ l.length = b.toNat := by
      rw [Nat.add_comm, Nat.add_mul_div_right _ _ (by positivity),
        Nat.div_eq_of_lt (ofBytes_lt l), Nat.zero_add]
    rw [List.length_cons, digits, ofBytes_cons, low, ih, top]
    simp

/-- Bytes are the field of the number they carry. -/
theorem be_ofBytes (l : List Byte) : be l.length (ofBytes l) = l := by
  rw [be_fits (ofBytes_lt l), digits_ofBytes]

/-! ### Signed numbers -/

/-- Bytes are the signed field of the number they carry in two's complement. -/
theorem beSigned_ofBytesSigned (l : List Byte) (h : l ≠ []) :
    beSigned l.length (ofBytesSigned l) = l := by
  have hlt := ofBytes_lt l
  obtain ⟨k, hk⟩ : ∃ k : Nat, 256 ^ l.length = 2 * k := by
    obtain ⟨m, hm⟩ : ∃ m, l.length = m + 1 :=
      Nat.exists_eq_succ_of_ne_zero (by simpa using h)
    exact ⟨128 * 256 ^ m, by rw [hm, Nat.pow_succ]; ring⟩
  have hki : (256 : Int) ^ l.length = 2 * k := by exact_mod_cast hk
  have half : ((256 : Int) ^ l.length / 2) = k := by rw [hki]; omega
  have range : -(256 ^ l.length / 2 : Int) ≤ ofBytesSigned l ∧
      ofBytesSigned l < (256 ^ l.length / 2 : Int) := by
    rw [half]; unfold ofBytesSigned; dsimp only; rw [hki]
    rw [hk] at hlt ⊢
    split <;> omega
  rw [beSigned, if_pos range]
  have value : (ofBytesSigned l % 256 ^ l.length).toNat = ofBytes l := by
    unfold ofBytesSigned; dsimp only; rw [hki]
    rw [hk] at hlt ⊢
    split
    · rw [Int.emod_eq_of_lt (by omega) (by omega)]; simp
    · have : ((ofBytes l : Int) - 2 * k) % (2 * k) = ofBytes l := by
        rw [Int.sub_emod_right, Int.emod_eq_of_lt (by omega) (by omega)]
      rw [this]; simp
  rw [value, digits_ofBytes]

/-! ### Sets of flags -/

/-- The number whose bits below `k` are `b`. -/
def bitsBelow (b : Nat → Bool) : Nat → Nat
  | 0 => 0
  | k + 1 => bitsBelow b k + if b k then 2 ^ k else 0

theorem bitsBelow_lt (b : Nat → Bool) (k : Nat) : bitsBelow b k < 2 ^ k := by
  induction k with
  | zero => simp [bitsBelow]
  | succ k ih => simp only [bitsBelow, Nat.pow_succ]; split <;> omega

theorem bitsBelow_testBit (b : Nat → Bool) {k i : Nat} (h : i < k) :
    (bitsBelow b k).testBit i = b i := by
  induction k with
  | zero => omega
  | succ k ih =>
    simp only [bitsBelow]
    by_cases hi : i = k
    · subst hi
      by_cases hb : b i = true
      · rw [if_pos hb, Nat.add_comm, Nat.testBit_two_pow_add_eq,
          Nat.testBit_lt_two_pow (bitsBelow_lt b i), hb]; rfl
      · rw [if_neg hb, Nat.add_zero, Nat.testBit_lt_two_pow (bitsBelow_lt b i)]; simpa using hb
    · by_cases hb : b k = true
      · rw [if_pos hb, Nat.add_comm, Nat.testBit_two_pow_add_gt (by omega)]; exact ih (by omega)
      · rw [if_neg hb, Nat.add_zero]; exact ih (by omega)

/-- The flag of a number below 18. -/
def flagOf (i : Nat) : Flag := allFlags.getD i .linkFault

theorem flagOf_index (f : Flag) : flagOf f.index.val = f := by cases f <;> rfl

/-- A set of flags is the number whose bit n says whether it holds flag n. -/
theorem flagSet_bits (p : Flag → Bool) : flagSet p = digits 3 (bitsBelow (fun i => p (flagOf i)) 18) := by
  unfold flagSet
  congr 1

theorem flagSet_testBit (p : Flag → Bool) (f : Flag) :
    (bitsBelow (fun i => p (flagOf i)) 18).testBit f.index.val = p f := by
  rw [bitsBelow_testBit _ f.index.isLt, flagOf_index]

end Sys2Proof.Laws
end

