-- ==== Sys2Proof/Laws/State.lean ====
section
/-! SUPPORT. What each named update of the state leaves as it stands, one lemma per field, so that no
later proof unfolds a record update. -/

namespace Sys2Proof.Laws

open Sys2Proof.Machine

@[simp] theorem tally_pending (f : Counters → Counters) (s : State) : (s.tally f).pending = s.pending := rfl
@[simp] theorem tally_resetHeld (f : Counters → Counters) (s : State) : (s.tally f).resetHeld = s.resetHeld := rfl
@[simp] theorem tally_pins (f : Counters → Counters) (s : State) : (s.tally f).pins = s.pins := rfl
@[simp] theorem tally_ali (f : Counters → Counters) (s : State) : (s.tally f).ali = s.ali := rfl
@[simp] theorem tally_etu (f : Counters → Counters) (s : State) : (s.tally f).etu = s.etu := rfl
@[simp] theorem tally_rfs (f : Counters → Counters) (s : State) : (s.tally f).rfs = s.rfs := rfl
@[simp] theorem tally_tru (f : Counters → Counters) (s : State) : (s.tally f).tru = s.tru := rfl
@[simp] theorem tally_scs (f : Counters → Counters) (s : State) : (s.tally f).scs = s.scs := rfl
@[simp] theorem tally_rpb (f : Counters → Counters) (s : State) : (s.tally f).rpb = s.rpb := rfl
@[simp] theorem tally_tbs (f : Counters → Counters) (s : State) : (s.tally f).tbs = s.tbs := rfl
@[simp] theorem tally_ldu (f : Counters → Counters) (s : State) : (s.tally f).ldu = s.ldu := rfl
@[simp] theorem tally_evu (f : Counters → Counters) (s : State) : (s.tally f).evu = s.evu := rfl
@[simp] theorem tally_cmu (f : Counters → Counters) (s : State) : (s.tally f).cmu = s.cmu := rfl
@[simp] theorem tally_mli (f : Counters → Counters) (s : State) : (s.tally f).mli = s.mli := rfl
@[simp] theorem tallyChannel_pending (c : Fin 8) (f : ChannelCounters → ChannelCounters) (s : State) : (s.tallyChannel c f).pending = s.pending := rfl
@[simp] theorem tallyChannel_resetHeld (c : Fin 8) (f : ChannelCounters → ChannelCounters) (s : State) : (s.tallyChannel c f).resetHeld = s.resetHeld := rfl
@[simp] theorem tallyChannel_pins (c : Fin 8) (f : ChannelCounters → ChannelCounters) (s : State) : (s.tallyChannel c f).pins = s.pins := rfl
@[simp] theorem tallyChannel_ali (c : Fin 8) (f : ChannelCounters → ChannelCounters) (s : State) : (s.tallyChannel c f).ali = s.ali := rfl
@[simp] theorem tallyChannel_etu (c : Fin 8) (f : ChannelCounters → ChannelCounters) (s : State) : (s.tallyChannel c f).etu = s.etu := rfl
@[simp] theorem tallyChannel_rfs (c : Fin 8) (f : ChannelCounters → ChannelCounters) (s : State) : (s.tallyChannel c f).rfs = s.rfs := rfl
@[simp] theorem tallyChannel_tru (c : Fin 8) (f : ChannelCounters → ChannelCounters) (s : State) : (s.tallyChannel c f).tru = s.tru := rfl
@[simp] theorem tallyChannel_scs (c : Fin 8) (f : ChannelCounters → ChannelCounters) (s : State) : (s.tallyChannel c f).scs = s.scs := rfl
@[simp] theorem tallyChannel_rpb (c : Fin 8) (f : ChannelCounters → ChannelCounters) (s : State) : (s.tallyChannel c f).rpb = s.rpb := rfl
@[simp] theorem tallyChannel_tbs (c : Fin 8) (f : ChannelCounters → ChannelCounters) (s : State) : (s.tallyChannel c f).tbs = s.tbs := rfl
@[simp] theorem tallyChannel_ldu (c : Fin 8) (f : ChannelCounters → ChannelCounters) (s : State) : (s.tallyChannel c f).ldu = s.ldu := rfl
@[simp] theorem tallyChannel_evu (c : Fin 8) (f : ChannelCounters → ChannelCounters) (s : State) : (s.tallyChannel c f).evu = s.evu := rfl
@[simp] theorem tallyChannel_cmu (c : Fin 8) (f : ChannelCounters → ChannelCounters) (s : State) : (s.tallyChannel c f).cmu = s.cmu := rfl
@[simp] theorem tallyChannel_mli (c : Fin 8) (f : ChannelCounters → ChannelCounters) (s : State) : (s.tallyChannel c f).mli = s.mli := rfl
@[simp] theorem etuChannel_pending (c : Fin 8) (f : EtuChannel → EtuChannel) (s : State) : (s.etuChannel c f).pending = s.pending := rfl
@[simp] theorem etuChannel_resetHeld (c : Fin 8) (f : EtuChannel → EtuChannel) (s : State) : (s.etuChannel c f).resetHeld = s.resetHeld := rfl
@[simp] theorem etuChannel_pins (c : Fin 8) (f : EtuChannel → EtuChannel) (s : State) : (s.etuChannel c f).pins = s.pins := rfl
@[simp] theorem etuChannel_ali (c : Fin 8) (f : EtuChannel → EtuChannel) (s : State) : (s.etuChannel c f).ali = s.ali := rfl
@[simp] theorem etuChannel_rfs (c : Fin 8) (f : EtuChannel → EtuChannel) (s : State) : (s.etuChannel c f).rfs = s.rfs := rfl
@[simp] theorem etuChannel_tru (c : Fin 8) (f : EtuChannel → EtuChannel) (s : State) : (s.etuChannel c f).tru = s.tru := rfl
@[simp] theorem etuChannel_scs (c : Fin 8) (f : EtuChannel → EtuChannel) (s : State) : (s.etuChannel c f).scs = s.scs := rfl
@[simp] theorem etuChannel_rpb (c : Fin 8) (f : EtuChannel → EtuChannel) (s : State) : (s.etuChannel c f).rpb = s.rpb := rfl
@[simp] theorem etuChannel_tbs (c : Fin 8) (f : EtuChannel → EtuChannel) (s : State) : (s.etuChannel c f).tbs = s.tbs := rfl
@[simp] theorem etuChannel_ldu (c : Fin 8) (f : EtuChannel → EtuChannel) (s : State) : (s.etuChannel c f).ldu = s.ldu := rfl
@[simp] theorem etuChannel_evu (c : Fin 8) (f : EtuChannel → EtuChannel) (s : State) : (s.etuChannel c f).evu = s.evu := rfl
@[simp] theorem etuChannel_cmu (c : Fin 8) (f : EtuChannel → EtuChannel) (s : State) : (s.etuChannel c f).cmu = s.cmu := rfl
@[simp] theorem etuChannel_mli (c : Fin 8) (f : EtuChannel → EtuChannel) (s : State) : (s.etuChannel c f).mli = s.mli := rfl
@[simp] theorem etuChannel_counters (c : Fin 8) (f : EtuChannel → EtuChannel) (s : State) : (s.etuChannel c f).counters = s.counters := rfl
@[simp] theorem rfsChannel_pending (c : Fin 8) (f : RfsChannel → RfsChannel) (s : State) : (s.rfsChannel c f).pending = s.pending := rfl
@[simp] theorem rfsChannel_resetHeld (c : Fin 8) (f : RfsChannel → RfsChannel) (s : State) : (s.rfsChannel c f).resetHeld = s.resetHeld := rfl
@[simp] theorem rfsChannel_pins (c : Fin 8) (f : RfsChannel → RfsChannel) (s : State) : (s.rfsChannel c f).pins = s.pins := rfl
@[simp] theorem rfsChannel_ali (c : Fin 8) (f : RfsChannel → RfsChannel) (s : State) : (s.rfsChannel c f).ali = s.ali := rfl
@[simp] theorem rfsChannel_etu (c : Fin 8) (f : RfsChannel → RfsChannel) (s : State) : (s.rfsChannel c f).etu = s.etu := rfl
@[simp] theorem rfsChannel_tru (c : Fin 8) (f : RfsChannel → RfsChannel) (s : State) : (s.rfsChannel c f).tru = s.tru := rfl
@[simp] theorem rfsChannel_scs (c : Fin 8) (f : RfsChannel → RfsChannel) (s : State) : (s.rfsChannel c f).scs = s.scs := rfl
@[simp] theorem rfsChannel_rpb (c : Fin 8) (f : RfsChannel → RfsChannel) (s : State) : (s.rfsChannel c f).rpb = s.rpb := rfl
@[simp] theorem rfsChannel_tbs (c : Fin 8) (f : RfsChannel → RfsChannel) (s : State) : (s.rfsChannel c f).tbs = s.tbs := rfl
@[simp] theorem rfsChannel_ldu (c : Fin 8) (f : RfsChannel → RfsChannel) (s : State) : (s.rfsChannel c f).ldu = s.ldu := rfl
@[simp] theorem rfsChannel_evu (c : Fin 8) (f : RfsChannel → RfsChannel) (s : State) : (s.rfsChannel c f).evu = s.evu := rfl
@[simp] theorem rfsChannel_cmu (c : Fin 8) (f : RfsChannel → RfsChannel) (s : State) : (s.rfsChannel c f).cmu = s.cmu := rfl
@[simp] theorem rfsChannel_mli (c : Fin 8) (f : RfsChannel → RfsChannel) (s : State) : (s.rfsChannel c f).mli = s.mli := rfl
@[simp] theorem rfsChannel_counters (c : Fin 8) (f : RfsChannel → RfsChannel) (s : State) : (s.rfsChannel c f).counters = s.counters := rfl
@[simp] theorem shellAt_pending (i : Fin 4) (f : Shell → Shell) (s : State) : (s.shellAt i f).pending = s.pending := rfl
@[simp] theorem shellAt_resetHeld (i : Fin 4) (f : Shell → Shell) (s : State) : (s.shellAt i f).resetHeld = s.resetHeld := rfl
@[simp] theorem shellAt_pins (i : Fin 4) (f : Shell → Shell) (s : State) : (s.shellAt i f).pins = s.pins := rfl
@[simp] theorem shellAt_ali (i : Fin 4) (f : Shell → Shell) (s : State) : (s.shellAt i f).ali = s.ali := rfl
@[simp] theorem shellAt_etu (i : Fin 4) (f : Shell → Shell) (s : State) : (s.shellAt i f).etu = s.etu := rfl
@[simp] theorem shellAt_rfs (i : Fin 4) (f : Shell → Shell) (s : State) : (s.shellAt i f).rfs = s.rfs := rfl
@[simp] theorem shellAt_tru (i : Fin 4) (f : Shell → Shell) (s : State) : (s.shellAt i f).tru = s.tru := rfl
@[simp] theorem shellAt_rpb (i : Fin 4) (f : Shell → Shell) (s : State) : (s.shellAt i f).rpb = s.rpb := rfl
@[simp] theorem shellAt_tbs (i : Fin 4) (f : Shell → Shell) (s : State) : (s.shellAt i f).tbs = s.tbs := rfl
@[simp] theorem shellAt_ldu (i : Fin 4) (f : Shell → Shell) (s : State) : (s.shellAt i f).ldu = s.ldu := rfl
@[simp] theorem shellAt_evu (i : Fin 4) (f : Shell → Shell) (s : State) : (s.shellAt i f).evu = s.evu := rfl
@[simp] theorem shellAt_cmu (i : Fin 4) (f : Shell → Shell) (s : State) : (s.shellAt i f).cmu = s.cmu := rfl
@[simp] theorem shellAt_mli (i : Fin 4) (f : Shell → Shell) (s : State) : (s.shellAt i f).mli = s.mli := rfl
@[simp] theorem shellAt_counters (i : Fin 4) (f : Shell → Shell) (s : State) : (s.shellAt i f).counters = s.counters := rfl
@[simp] theorem freeContext_pending (i : Fin 4) (s : State) : (s.freeContext i).pending = s.pending := rfl
@[simp] theorem freeContext_resetHeld (i : Fin 4) (s : State) : (s.freeContext i).resetHeld = s.resetHeld := rfl
@[simp] theorem freeContext_pins (i : Fin 4) (s : State) : (s.freeContext i).pins = s.pins := rfl
@[simp] theorem freeContext_ali (i : Fin 4) (s : State) : (s.freeContext i).ali = s.ali := rfl
@[simp] theorem freeContext_etu (i : Fin 4) (s : State) : (s.freeContext i).etu = s.etu := rfl
@[simp] theorem freeContext_rfs (i : Fin 4) (s : State) : (s.freeContext i).rfs = s.rfs := rfl
@[simp] theorem freeContext_tru (i : Fin 4) (s : State) : (s.freeContext i).tru = s.tru := rfl
@[simp] theorem freeContext_rpb (i : Fin 4) (s : State) : (s.freeContext i).rpb = s.rpb := rfl
@[simp] theorem freeContext_tbs (i : Fin 4) (s : State) : (s.freeContext i).tbs = s.tbs := rfl
@[simp] theorem freeContext_ldu (i : Fin 4) (s : State) : (s.freeContext i).ldu = s.ldu := rfl
@[simp] theorem freeContext_evu (i : Fin 4) (s : State) : (s.freeContext i).evu = s.evu := rfl
@[simp] theorem freeContext_cmu (i : Fin 4) (s : State) : (s.freeContext i).cmu = s.cmu := rfl
@[simp] theorem freeContext_mli (i : Fin 4) (s : State) : (s.freeContext i).mli = s.mli := rfl
@[simp] theorem freeContext_counters (i : Fin 4) (s : State) : (s.freeContext i).counters = s.counters := rfl
@[simp] theorem setFlag_pending (f : Flag) (v : FlagState) (s : State) : (s.setFlag f v).pending = s.pending := rfl
@[simp] theorem setFlag_resetHeld (f : Flag) (v : FlagState) (s : State) : (s.setFlag f v).resetHeld = s.resetHeld := rfl
@[simp] theorem setFlag_pins (f : Flag) (v : FlagState) (s : State) : (s.setFlag f v).pins = s.pins := rfl
@[simp] theorem setFlag_ali (f : Flag) (v : FlagState) (s : State) : (s.setFlag f v).ali = s.ali := rfl
@[simp] theorem setFlag_etu (f : Flag) (v : FlagState) (s : State) : (s.setFlag f v).etu = s.etu := rfl
@[simp] theorem setFlag_rfs (f : Flag) (v : FlagState) (s : State) : (s.setFlag f v).rfs = s.rfs := rfl
@[simp] theorem setFlag_tru (f : Flag) (v : FlagState) (s : State) : (s.setFlag f v).tru = s.tru := rfl
@[simp] theorem setFlag_scs (f : Flag) (v : FlagState) (s : State) : (s.setFlag f v).scs = s.scs := rfl
@[simp] theorem setFlag_rpb (f : Flag) (v : FlagState) (s : State) : (s.setFlag f v).rpb = s.rpb := rfl
@[simp] theorem setFlag_tbs (f : Flag) (v : FlagState) (s : State) : (s.setFlag f v).tbs = s.tbs := rfl
@[simp] theorem setFlag_ldu (f : Flag) (v : FlagState) (s : State) : (s.setFlag f v).ldu = s.ldu := rfl
@[simp] theorem setFlag_cmu (f : Flag) (v : FlagState) (s : State) : (s.setFlag f v).cmu = s.cmu := rfl
@[simp] theorem setFlag_mli (f : Flag) (v : FlagState) (s : State) : (s.setFlag f v).mli = s.mli := rfl
@[simp] theorem setFlag_counters (f : Flag) (v : FlagState) (s : State) : (s.setFlag f v).counters = s.counters := rfl
@[simp] theorem reloadInterval_pending (c : Fin 8) (s : State) : (s.reloadInterval c).pending = s.pending := rfl
@[simp] theorem reloadInterval_resetHeld (c : Fin 8) (s : State) : (s.reloadInterval c).resetHeld = s.resetHeld := rfl
@[simp] theorem reloadInterval_pins (c : Fin 8) (s : State) : (s.reloadInterval c).pins = s.pins := rfl
@[simp] theorem reloadInterval_ali (c : Fin 8) (s : State) : (s.reloadInterval c).ali = s.ali := rfl
@[simp] theorem reloadInterval_etu (c : Fin 8) (s : State) : (s.reloadInterval c).etu = s.etu := rfl
@[simp] theorem reloadInterval_tru (c : Fin 8) (s : State) : (s.reloadInterval c).tru = s.tru := rfl
@[simp] theorem reloadInterval_scs (c : Fin 8) (s : State) : (s.reloadInterval c).scs = s.scs := rfl
@[simp] theorem reloadInterval_rpb (c : Fin 8) (s : State) : (s.reloadInterval c).rpb = s.rpb := rfl
@[simp] theorem reloadInterval_tbs (c : Fin 8) (s : State) : (s.reloadInterval c).tbs = s.tbs := rfl
@[simp] theorem reloadInterval_ldu (c : Fin 8) (s : State) : (s.reloadInterval c).ldu = s.ldu := rfl
@[simp] theorem reloadInterval_evu (c : Fin 8) (s : State) : (s.reloadInterval c).evu = s.evu := rfl
@[simp] theorem reloadInterval_cmu (c : Fin 8) (s : State) : (s.reloadInterval c).cmu = s.cmu := rfl
@[simp] theorem reloadInterval_mli (c : Fin 8) (s : State) : (s.reloadInterval c).mli = s.mli := rfl
@[simp] theorem reloadInterval_counters (c : Fin 8) (s : State) : (s.reloadInterval c).counters = s.counters := rfl
@[simp] theorem dropRequest_pending (c : Fin 8) (s : State) : (s.dropRequest c).pending = s.pending := rfl
@[simp] theorem dropRequest_resetHeld (c : Fin 8) (s : State) : (s.dropRequest c).resetHeld = s.resetHeld := rfl
@[simp] theorem dropRequest_pins (c : Fin 8) (s : State) : (s.dropRequest c).pins = s.pins := rfl
@[simp] theorem dropRequest_ali (c : Fin 8) (s : State) : (s.dropRequest c).ali = s.ali := rfl
@[simp] theorem dropRequest_etu (c : Fin 8) (s : State) : (s.dropRequest c).etu = s.etu := rfl
@[simp] theorem dropRequest_tru (c : Fin 8) (s : State) : (s.dropRequest c).tru = s.tru := rfl
@[simp] theorem dropRequest_scs (c : Fin 8) (s : State) : (s.dropRequest c).scs = s.scs := rfl
@[simp] theorem dropRequest_rpb (c : Fin 8) (s : State) : (s.dropRequest c).rpb = s.rpb := rfl
@[simp] theorem dropRequest_tbs (c : Fin 8) (s : State) : (s.dropRequest c).tbs = s.tbs := rfl
@[simp] theorem dropRequest_ldu (c : Fin 8) (s : State) : (s.dropRequest c).ldu = s.ldu := rfl
@[simp] theorem dropRequest_evu (c : Fin 8) (s : State) : (s.dropRequest c).evu = s.evu := rfl
@[simp] theorem dropRequest_cmu (c : Fin 8) (s : State) : (s.dropRequest c).cmu = s.cmu := rfl
@[simp] theorem dropRequest_mli (c : Fin 8) (s : State) : (s.dropRequest c).mli = s.mli := rfl
@[simp] theorem dropRequest_counters (c : Fin 8) (s : State) : (s.dropRequest c).counters = s.counters := rfl
@[simp] theorem issue_pending (c : Fin 8) (s : State) : (s.issue c).pending = s.pending := rfl
@[simp] theorem issue_resetHeld (c : Fin 8) (s : State) : (s.issue c).resetHeld = s.resetHeld := rfl
@[simp] theorem issue_pins (c : Fin 8) (s : State) : (s.issue c).pins = s.pins := rfl
@[simp] theorem issue_etu (c : Fin 8) (s : State) : (s.issue c).etu = s.etu := rfl
@[simp] theorem issue_tru (c : Fin 8) (s : State) : (s.issue c).tru = s.tru := rfl
@[simp] theorem issue_scs (c : Fin 8) (s : State) : (s.issue c).scs = s.scs := rfl
@[simp] theorem issue_rpb (c : Fin 8) (s : State) : (s.issue c).rpb = s.rpb := rfl
@[simp] theorem issue_tbs (c : Fin 8) (s : State) : (s.issue c).tbs = s.tbs := rfl
@[simp] theorem issue_ldu (c : Fin 8) (s : State) : (s.issue c).ldu = s.ldu := rfl
@[simp] theorem issue_evu (c : Fin 8) (s : State) : (s.issue c).evu = s.evu := rfl
@[simp] theorem issue_cmu (c : Fin 8) (s : State) : (s.issue c).cmu = s.cmu := rfl
@[simp] theorem issue_mli (c : Fin 8) (s : State) : (s.issue c).mli = s.mli := rfl
@[simp] theorem takeWall_pending (c : Fin 8) (w : Nat) (s : State) : (s.takeWall c w).pending = s.pending := rfl
@[simp] theorem takeWall_resetHeld (c : Fin 8) (w : Nat) (s : State) : (s.takeWall c w).resetHeld = s.resetHeld := rfl
@[simp] theorem takeWall_pins (c : Fin 8) (w : Nat) (s : State) : (s.takeWall c w).pins = s.pins := rfl
@[simp] theorem takeWall_ali (c : Fin 8) (w : Nat) (s : State) : (s.takeWall c w).ali = s.ali := rfl
@[simp] theorem takeWall_etu (c : Fin 8) (w : Nat) (s : State) : (s.takeWall c w).etu = s.etu := rfl
@[simp] theorem takeWall_rfs (c : Fin 8) (w : Nat) (s : State) : (s.takeWall c w).rfs = s.rfs := rfl
@[simp] theorem takeWall_tru (c : Fin 8) (w : Nat) (s : State) : (s.takeWall c w).tru = s.tru := rfl
@[simp] theorem takeWall_scs (c : Fin 8) (w : Nat) (s : State) : (s.takeWall c w).scs = s.scs := rfl
@[simp] theorem takeWall_rpb (c : Fin 8) (w : Nat) (s : State) : (s.takeWall c w).rpb = s.rpb := rfl
@[simp] theorem takeWall_tbs (c : Fin 8) (w : Nat) (s : State) : (s.takeWall c w).tbs = s.tbs := rfl
@[simp] theorem takeWall_evu (c : Fin 8) (w : Nat) (s : State) : (s.takeWall c w).evu = s.evu := rfl
@[simp] theorem takeWall_cmu (c : Fin 8) (w : Nat) (s : State) : (s.takeWall c w).cmu = s.cmu := rfl
@[simp] theorem takeWall_mli (c : Fin 8) (w : Nat) (s : State) : (s.takeWall c w).mli = s.mli := rfl
@[simp] theorem takeWall_counters (c : Fin 8) (w : Nat) (s : State) : (s.takeWall c w).counters = s.counters := rfl
@[simp] theorem startA_pending (f : Frame) (s : State) : (s.startA f).pending = s.pending := rfl
@[simp] theorem startA_resetHeld (f : Frame) (s : State) : (s.startA f).resetHeld = s.resetHeld := rfl
@[simp] theorem startA_pins (f : Frame) (s : State) : (s.startA f).pins = s.pins := rfl
@[simp] theorem startA_etu (f : Frame) (s : State) : (s.startA f).etu = s.etu := rfl
@[simp] theorem startA_rfs (f : Frame) (s : State) : (s.startA f).rfs = s.rfs := rfl
@[simp] theorem startA_tru (f : Frame) (s : State) : (s.startA f).tru = s.tru := rfl
@[simp] theorem startA_scs (f : Frame) (s : State) : (s.startA f).scs = s.scs := rfl
@[simp] theorem startA_rpb (f : Frame) (s : State) : (s.startA f).rpb = s.rpb := rfl
@[simp] theorem startA_tbs (f : Frame) (s : State) : (s.startA f).tbs = s.tbs := rfl
@[simp] theorem startA_ldu (f : Frame) (s : State) : (s.startA f).ldu = s.ldu := rfl
@[simp] theorem startA_evu (f : Frame) (s : State) : (s.startA f).evu = s.evu := rfl
@[simp] theorem startA_cmu (f : Frame) (s : State) : (s.startA f).cmu = s.cmu := rfl
@[simp] theorem startA_mli (f : Frame) (s : State) : (s.startA f).mli = s.mli := rfl
@[simp] theorem startM_pending (f : Frame) (s : State) : (s.startM f).pending = s.pending := rfl
@[simp] theorem startM_resetHeld (f : Frame) (s : State) : (s.startM f).resetHeld = s.resetHeld := rfl
@[simp] theorem startM_pins (f : Frame) (s : State) : (s.startM f).pins = s.pins := rfl
@[simp] theorem startM_ali (f : Frame) (s : State) : (s.startM f).ali = s.ali := rfl
@[simp] theorem startM_etu (f : Frame) (s : State) : (s.startM f).etu = s.etu := rfl
@[simp] theorem startM_rfs (f : Frame) (s : State) : (s.startM f).rfs = s.rfs := rfl
@[simp] theorem startM_tru (f : Frame) (s : State) : (s.startM f).tru = s.tru := rfl
@[simp] theorem startM_scs (f : Frame) (s : State) : (s.startM f).scs = s.scs := rfl
@[simp] theorem startM_rpb (f : Frame) (s : State) : (s.startM f).rpb = s.rpb := rfl
@[simp] theorem startM_tbs (f : Frame) (s : State) : (s.startM f).tbs = s.tbs := rfl
@[simp] theorem startM_ldu (f : Frame) (s : State) : (s.startM f).ldu = s.ldu := rfl
@[simp] theorem startM_evu (f : Frame) (s : State) : (s.startM f).evu = s.evu := rfl
@[simp] theorem startM_cmu (f : Frame) (s : State) : (s.startM f).cmu = s.cmu := rfl
@[simp] theorem keepSequence_pending (c : Fin 8) (r : ShotRecord) (s : State) : (s.keepSequence c r).pending = s.pending := rfl
@[simp] theorem keepSequence_resetHeld (c : Fin 8) (r : ShotRecord) (s : State) : (s.keepSequence c r).resetHeld = s.resetHeld := rfl
@[simp] theorem keepSequence_pins (c : Fin 8) (r : ShotRecord) (s : State) : (s.keepSequence c r).pins = s.pins := rfl
@[simp] theorem keepSequence_ali (c : Fin 8) (r : ShotRecord) (s : State) : (s.keepSequence c r).ali = s.ali := rfl
@[simp] theorem keepSequence_rfs (c : Fin 8) (r : ShotRecord) (s : State) : (s.keepSequence c r).rfs = s.rfs := rfl
@[simp] theorem keepSequence_tru (c : Fin 8) (r : ShotRecord) (s : State) : (s.keepSequence c r).tru = s.tru := rfl
@[simp] theorem keepSequence_scs (c : Fin 8) (r : ShotRecord) (s : State) : (s.keepSequence c r).scs = s.scs := rfl
@[simp] theorem keepSequence_rpb (c : Fin 8) (r : ShotRecord) (s : State) : (s.keepSequence c r).rpb = s.rpb := rfl
@[simp] theorem keepSequence_tbs (c : Fin 8) (r : ShotRecord) (s : State) : (s.keepSequence c r).tbs = s.tbs := rfl
@[simp] theorem keepSequence_ldu (c : Fin 8) (r : ShotRecord) (s : State) : (s.keepSequence c r).ldu = s.ldu := rfl
@[simp] theorem keepSequence_evu (c : Fin 8) (r : ShotRecord) (s : State) : (s.keepSequence c r).evu = s.evu := rfl
@[simp] theorem keepSequence_cmu (c : Fin 8) (r : ShotRecord) (s : State) : (s.keepSequence c r).cmu = s.cmu := rfl
@[simp] theorem keepSequence_mli (c : Fin 8) (r : ShotRecord) (s : State) : (s.keepSequence c r).mli = s.mli := rfl
@[simp] theorem keepSequence_counters (c : Fin 8) (r : ShotRecord) (s : State) : (s.keepSequence c r).counters = s.counters := rfl
@[simp] theorem stageChannel_pending (n : Nat) (e : Option ChannelEntry) (s : State) : (s.stageChannel n e).pending = s.pending := rfl
@[simp] theorem stageChannel_resetHeld (n : Nat) (e : Option ChannelEntry) (s : State) : (s.stageChannel n e).resetHeld = s.resetHeld := rfl
@[simp] theorem stageChannel_pins (n : Nat) (e : Option ChannelEntry) (s : State) : (s.stageChannel n e).pins = s.pins := rfl
@[simp] theorem stageChannel_ali (n : Nat) (e : Option ChannelEntry) (s : State) : (s.stageChannel n e).ali = s.ali := rfl
@[simp] theorem stageChannel_etu (n : Nat) (e : Option ChannelEntry) (s : State) : (s.stageChannel n e).etu = s.etu := rfl
@[simp] theorem stageChannel_rfs (n : Nat) (e : Option ChannelEntry) (s : State) : (s.stageChannel n e).rfs = s.rfs := rfl
@[simp] theorem stageChannel_tru (n : Nat) (e : Option ChannelEntry) (s : State) : (s.stageChannel n e).tru = s.tru := rfl
@[simp] theorem stageChannel_scs (n : Nat) (e : Option ChannelEntry) (s : State) : (s.stageChannel n e).scs = s.scs := rfl
@[simp] theorem stageChannel_rpb (n : Nat) (e : Option ChannelEntry) (s : State) : (s.stageChannel n e).rpb = s.rpb := rfl
@[simp] theorem stageChannel_ldu (n : Nat) (e : Option ChannelEntry) (s : State) : (s.stageChannel n e).ldu = s.ldu := rfl
@[simp] theorem stageChannel_evu (n : Nat) (e : Option ChannelEntry) (s : State) : (s.stageChannel n e).evu = s.evu := rfl
@[simp] theorem stageChannel_cmu (n : Nat) (e : Option ChannelEntry) (s : State) : (s.stageChannel n e).cmu = s.cmu := rfl
@[simp] theorem stageChannel_mli (n : Nat) (e : Option ChannelEntry) (s : State) : (s.stageChannel n e).mli = s.mli := rfl
@[simp] theorem stageChannel_counters (n : Nat) (e : Option ChannelEntry) (s : State) : (s.stageChannel n e).counters = s.counters := rfl
@[simp] theorem stageVelocity_pending (n : Nat) (t : Option VelocityTable) (s : State) : (s.stageVelocity n t).pending = s.pending := rfl
@[simp] theorem stageVelocity_resetHeld (n : Nat) (t : Option VelocityTable) (s : State) : (s.stageVelocity n t).resetHeld = s.resetHeld := rfl
@[simp] theorem stageVelocity_pins (n : Nat) (t : Option VelocityTable) (s : State) : (s.stageVelocity n t).pins = s.pins := rfl
@[simp] theorem stageVelocity_ali (n : Nat) (t : Option VelocityTable) (s : State) : (s.stageVelocity n t).ali = s.ali := rfl
@[simp] theorem stageVelocity_etu (n : Nat) (t : Option VelocityTable) (s : State) : (s.stageVelocity n t).etu = s.etu := rfl
@[simp] theorem stageVelocity_rfs (n : Nat) (t : Option VelocityTable) (s : State) : (s.stageVelocity n t).rfs = s.rfs := rfl
@[simp] theorem stageVelocity_tru (n : Nat) (t : Option VelocityTable) (s : State) : (s.stageVelocity n t).tru = s.tru := rfl
@[simp] theorem stageVelocity_scs (n : Nat) (t : Option VelocityTable) (s : State) : (s.stageVelocity n t).scs = s.scs := rfl
@[simp] theorem stageVelocity_rpb (n : Nat) (t : Option VelocityTable) (s : State) : (s.stageVelocity n t).rpb = s.rpb := rfl
@[simp] theorem stageVelocity_ldu (n : Nat) (t : Option VelocityTable) (s : State) : (s.stageVelocity n t).ldu = s.ldu := rfl
@[simp] theorem stageVelocity_evu (n : Nat) (t : Option VelocityTable) (s : State) : (s.stageVelocity n t).evu = s.evu := rfl
@[simp] theorem stageVelocity_cmu (n : Nat) (t : Option VelocityTable) (s : State) : (s.stageVelocity n t).cmu = s.cmu := rfl
@[simp] theorem stageVelocity_mli (n : Nat) (t : Option VelocityTable) (s : State) : (s.stageVelocity n t).mli = s.mli := rfl
@[simp] theorem stageVelocity_counters (n : Nat) (t : Option VelocityTable) (s : State) : (s.stageVelocity n t).counters = s.counters := rfl
@[simp] theorem stageBank_pending (n : Nat) (b : Option ProductBank) (s : State) : (s.stageBank n b).pending = s.pending := rfl
@[simp] theorem stageBank_resetHeld (n : Nat) (b : Option ProductBank) (s : State) : (s.stageBank n b).resetHeld = s.resetHeld := rfl
@[simp] theorem stageBank_pins (n : Nat) (b : Option ProductBank) (s : State) : (s.stageBank n b).pins = s.pins := rfl
@[simp] theorem stageBank_ali (n : Nat) (b : Option ProductBank) (s : State) : (s.stageBank n b).ali = s.ali := rfl
@[simp] theorem stageBank_etu (n : Nat) (b : Option ProductBank) (s : State) : (s.stageBank n b).etu = s.etu := rfl
@[simp] theorem stageBank_rfs (n : Nat) (b : Option ProductBank) (s : State) : (s.stageBank n b).rfs = s.rfs := rfl
@[simp] theorem stageBank_tru (n : Nat) (b : Option ProductBank) (s : State) : (s.stageBank n b).tru = s.tru := rfl
@[simp] theorem stageBank_scs (n : Nat) (b : Option ProductBank) (s : State) : (s.stageBank n b).scs = s.scs := rfl
@[simp] theorem stageBank_rpb (n : Nat) (b : Option ProductBank) (s : State) : (s.stageBank n b).rpb = s.rpb := rfl
@[simp] theorem stageBank_ldu (n : Nat) (b : Option ProductBank) (s : State) : (s.stageBank n b).ldu = s.ldu := rfl
@[simp] theorem stageBank_evu (n : Nat) (b : Option ProductBank) (s : State) : (s.stageBank n b).evu = s.evu := rfl
@[simp] theorem stageBank_cmu (n : Nat) (b : Option ProductBank) (s : State) : (s.stageBank n b).cmu = s.cmu := rfl
@[simp] theorem stageBank_mli (n : Nat) (b : Option ProductBank) (s : State) : (s.stageBank n b).mli = s.mli := rfl
@[simp] theorem stageBank_counters (n : Nat) (b : Option ProductBank) (s : State) : (s.stageBank n b).counters = s.counters := rfl
@[simp] theorem stageLine_pending (l : Option LineSetup) (s : State) : (s.stageLine l).pending = s.pending := rfl
@[simp] theorem stageLine_resetHeld (l : Option LineSetup) (s : State) : (s.stageLine l).resetHeld = s.resetHeld := rfl
@[simp] theorem stageLine_pins (l : Option LineSetup) (s : State) : (s.stageLine l).pins = s.pins := rfl
@[simp] theorem stageLine_ali (l : Option LineSetup) (s : State) : (s.stageLine l).ali = s.ali := rfl
@[simp] theorem stageLine_etu (l : Option LineSetup) (s : State) : (s.stageLine l).etu = s.etu := rfl
@[simp] theorem stageLine_rfs (l : Option LineSetup) (s : State) : (s.stageLine l).rfs = s.rfs := rfl
@[simp] theorem stageLine_tru (l : Option LineSetup) (s : State) : (s.stageLine l).tru = s.tru := rfl
@[simp] theorem stageLine_scs (l : Option LineSetup) (s : State) : (s.stageLine l).scs = s.scs := rfl
@[simp] theorem stageLine_rpb (l : Option LineSetup) (s : State) : (s.stageLine l).rpb = s.rpb := rfl
@[simp] theorem stageLine_ldu (l : Option LineSetup) (s : State) : (s.stageLine l).ldu = s.ldu := rfl
@[simp] theorem stageLine_evu (l : Option LineSetup) (s : State) : (s.stageLine l).evu = s.evu := rfl
@[simp] theorem stageLine_cmu (l : Option LineSetup) (s : State) : (s.stageLine l).cmu = s.cmu := rfl
@[simp] theorem stageLine_mli (l : Option LineSetup) (s : State) : (s.stageLine l).mli = s.mli := rfl
@[simp] theorem stageLine_counters (l : Option LineSetup) (s : State) : (s.stageLine l).counters = s.counters := rfl
@[simp] theorem held_pending (s : State) : (s.held).pending = s.pending := rfl
@[simp] theorem held_pins (s : State) : (s.held).pins = s.pins := rfl
@[simp] theorem endFrame_pending (link : Link) (s : State) : (s.endFrame link).pending = s.pending := by cases link <;> rfl
@[simp] theorem endFrame_resetHeld (link : Link) (s : State) : (s.endFrame link).resetHeld = s.resetHeld := by cases link <;> rfl
@[simp] theorem endFrame_pins (link : Link) (s : State) : (s.endFrame link).pins = s.pins := by cases link <;> rfl
@[simp] theorem endFrame_etu (link : Link) (s : State) : (s.endFrame link).etu = s.etu := by cases link <;> rfl
@[simp] theorem endFrame_rfs (link : Link) (s : State) : (s.endFrame link).rfs = s.rfs := by cases link <;> rfl
@[simp] theorem endFrame_tru (link : Link) (s : State) : (s.endFrame link).tru = s.tru := by cases link <;> rfl
@[simp] theorem endFrame_scs (link : Link) (s : State) : (s.endFrame link).scs = s.scs := by cases link <;> rfl
@[simp] theorem endFrame_rpb (link : Link) (s : State) : (s.endFrame link).rpb = s.rpb := by cases link <;> rfl
@[simp] theorem endFrame_tbs (link : Link) (s : State) : (s.endFrame link).tbs = s.tbs := by cases link <;> rfl
@[simp] theorem endFrame_ldu (link : Link) (s : State) : (s.endFrame link).ldu = s.ldu := by cases link <;> rfl
@[simp] theorem endFrame_evu (link : Link) (s : State) : (s.endFrame link).evu = s.evu := by cases link <;> rfl
@[simp] theorem endFrame_cmu (link : Link) (s : State) : (s.endFrame link).cmu = s.cmu := by cases link <;> rfl
@[simp] theorem endFrame_counters (link : Link) (s : State) : (s.endFrame link).counters = s.counters := by cases link <;> rfl
@[simp] theorem gainMLock_pending (s : State) : (s.gainMLock).pending = s.pending := rfl
@[simp] theorem gainMLock_resetHeld (s : State) : (s.gainMLock).resetHeld = s.resetHeld := rfl
@[simp] theorem gainMLock_pins (s : State) : (s.gainMLock).pins = s.pins := rfl
@[simp] theorem gainMLock_ali (s : State) : (s.gainMLock).ali = s.ali := rfl
@[simp] theorem gainMLock_etu (s : State) : (s.gainMLock).etu = s.etu := rfl
@[simp] theorem gainMLock_rfs (s : State) : (s.gainMLock).rfs = s.rfs := rfl
@[simp] theorem gainMLock_tru (s : State) : (s.gainMLock).tru = s.tru := rfl
@[simp] theorem gainMLock_scs (s : State) : (s.gainMLock).scs = s.scs := rfl
@[simp] theorem gainMLock_rpb (s : State) : (s.gainMLock).rpb = s.rpb := rfl
@[simp] theorem gainMLock_tbs (s : State) : (s.gainMLock).tbs = s.tbs := rfl
@[simp] theorem gainMLock_ldu (s : State) : (s.gainMLock).ldu = s.ldu := rfl
@[simp] theorem gainMLock_evu (s : State) : (s.gainMLock).evu = s.evu := rfl
@[simp] theorem gainMLock_cmu (s : State) : (s.gainMLock).cmu = s.cmu := rfl
@[simp] theorem gainMLock_counters (s : State) : (s.gainMLock).counters = s.counters := rfl
@[simp] theorem replied_pending (c : Command) (rest : List Command) (u : Status) (d : List Byte) (s : State) : (s.replied c rest u d).pending = s.pending := rfl
@[simp] theorem replied_resetHeld (c : Command) (rest : List Command) (u : Status) (d : List Byte) (s : State) : (s.replied c rest u d).resetHeld = s.resetHeld := rfl
@[simp] theorem replied_pins (c : Command) (rest : List Command) (u : Status) (d : List Byte) (s : State) : (s.replied c rest u d).pins = s.pins := rfl
@[simp] theorem replied_ali (c : Command) (rest : List Command) (u : Status) (d : List Byte) (s : State) : (s.replied c rest u d).ali = s.ali := rfl
@[simp] theorem replied_etu (c : Command) (rest : List Command) (u : Status) (d : List Byte) (s : State) : (s.replied c rest u d).etu = s.etu := rfl
@[simp] theorem replied_rfs (c : Command) (rest : List Command) (u : Status) (d : List Byte) (s : State) : (s.replied c rest u d).rfs = s.rfs := rfl
@[simp] theorem replied_tru (c : Command) (rest : List Command) (u : Status) (d : List Byte) (s : State) : (s.replied c rest u d).tru = s.tru := rfl
@[simp] theorem replied_scs (c : Command) (rest : List Command) (u : Status) (d : List Byte) (s : State) : (s.replied c rest u d).scs = s.scs := rfl
@[simp] theorem replied_rpb (c : Command) (rest : List Command) (u : Status) (d : List Byte) (s : State) : (s.replied c rest u d).rpb = s.rpb := rfl
@[simp] theorem replied_tbs (c : Command) (rest : List Command) (u : Status) (d : List Byte) (s : State) : (s.replied c rest u d).tbs = s.tbs := rfl
@[simp] theorem replied_ldu (c : Command) (rest : List Command) (u : Status) (d : List Byte) (s : State) : (s.replied c rest u d).ldu = s.ldu := rfl
@[simp] theorem replied_evu (c : Command) (rest : List Command) (u : Status) (d : List Byte) (s : State) : (s.replied c rest u d).evu = s.evu := rfl
@[simp] theorem replied_mli (c : Command) (rest : List Command) (u : Status) (d : List Byte) (s : State) : (s.replied c rest u d).mli = s.mli := rfl
@[simp] theorem replied_counters (c : Command) (rest : List Command) (u : Status) (d : List Byte) (s : State) : (s.replied c rest u d).counters = s.counters := rfl
@[simp] theorem shellAt_scs_nextSequence (i : Fin 4) (f : Shell → Shell) (s : State) : (s.shellAt i f).scs.nextSequence = s.scs.nextSequence := rfl
@[simp] theorem freeContext_scs_nextSequence (i : Fin 4) (s : State) : (s.freeContext i).scs.nextSequence = s.scs.nextSequence := rfl
@[simp] theorem shellAt_scs_mode (i : Fin 4) (f : Shell → Shell) (s : State) : (s.shellAt i f).scs.mode = s.scs.mode := rfl
@[simp] theorem freeContext_scs_mode (i : Fin 4) (s : State) : (s.freeContext i).scs.mode = s.scs.mode := rfl
@[simp] theorem shellAt_scs_parkRequest (i : Fin 4) (f : Shell → Shell) (s : State) : (s.shellAt i f).scs.parkRequest = s.scs.parkRequest := rfl
@[simp] theorem freeContext_scs_parkRequest (i : Fin 4) (s : State) : (s.freeContext i).scs.parkRequest = s.scs.parkRequest := rfl
@[simp] theorem shellAt_scs_drainTimer (i : Fin 4) (f : Shell → Shell) (s : State) : (s.shellAt i f).scs.drainTimer = s.scs.drainTimer := rfl
@[simp] theorem freeContext_scs_drainTimer (i : Fin 4) (s : State) : (s.freeContext i).scs.drainTimer = s.scs.drainTimer := rfl
@[simp] theorem rfsChannel_rfs_tagCounter (c : Fin 8) (f : RfsChannel → RfsChannel) (s : State) : (s.rfsChannel c f).rfs.tagCounter = s.rfs.tagCounter := rfl
@[simp] theorem rfsChannel_rfs_drainReports (c : Fin 8) (f : RfsChannel → RfsChannel) (s : State) : (s.rfsChannel c f).rfs.drainReports = s.rfs.drainReports := rfl

/-! ### The tables applied, and requests issued -/

@[simp] theorem applied_active (b : Tbs) : b.applied.active = b.staged := rfl
@[simp] theorem applied_staged (b : Tbs) : b.applied.staged = b.staged := rfl
@[simp] theorem applied_selectedBank (b : Tbs) : b.applied.selectedBank = b.selectedBank := rfl
@[simp] theorem applied_activeValid (b : Tbs) : b.applied.activeValid = true := rfl
@[simp] theorem applied_activationPending (b : Tbs) : b.applied.activationPending = false := rfl

/-- A request that stands is a case of one that may be issued. -/
theorem IssuedOver.refl (q : Option Request) : IssuedOver q q := .inl rfl

/-- Where nothing of the references changes, nothing is issued. -/
theorem OnlyIssues.of_eq {s t : State} (h : t.rfs.channels = s.rfs.channels) : s.OnlyIssues t := by
  intro c
  rw [h]
  exact ⟨rfl, rfl, rfl, .inl rfl⟩

end Sys2Proof.Laws
end

