-- ==== Sys2Proof/Laws/Frames.lean ====
section
/-! SUPPORT. The frames of the shared operations: for each operation, the blocks it leaves as they
stand, one lemma per block. -/

namespace Sys2Proof.Laws

open Sys2Proof.Machine

/-- What every step of a walk over the channels keeps, the walk keeps. -/
theorem forChannels_keeps {α : Type} (g : State → α) (f : Fin 8 → State → State)
    (h : ∀ c s, g (f c s) = g s) (s : State) : g (forChannels f s) = g s := by
  have key : ∀ (l : List (Fin 8)) (s : State), g (l.foldl (fun s c => f c s) s) = g s := by
    intro l
    induction l with
    | nil => intro s; rfl
    | cons c l ih => intro s; simp [List.foldl_cons, ih, h]
  exact key allChannels s

@[simp] theorem offerNotice_pending (n : Notice) (s : State) : (s.offerNotice n).pending = s.pending := by
  unfold State.offerNotice; try dsimp only
  (repeat' split) <;> simp
@[simp] theorem offerNotice_resetHeld (n : Notice) (s : State) : (s.offerNotice n).resetHeld = s.resetHeld := by
  unfold State.offerNotice; try dsimp only
  (repeat' split) <;> simp
@[simp] theorem offerNotice_pins (n : Notice) (s : State) : (s.offerNotice n).pins = s.pins := by
  unfold State.offerNotice; try dsimp only
  (repeat' split) <;> simp
@[simp] theorem offerNotice_ali (n : Notice) (s : State) : (s.offerNotice n).ali = s.ali := by
  unfold State.offerNotice; try dsimp only
  (repeat' split) <;> simp
@[simp] theorem offerNotice_etu (n : Notice) (s : State) : (s.offerNotice n).etu = s.etu := by
  unfold State.offerNotice; try dsimp only
  (repeat' split) <;> simp
@[simp] theorem offerNotice_rfs (n : Notice) (s : State) : (s.offerNotice n).rfs = s.rfs := by
  unfold State.offerNotice; try dsimp only
  (repeat' split) <;> simp
@[simp] theorem offerNotice_tru (n : Notice) (s : State) : (s.offerNotice n).tru = s.tru := by
  unfold State.offerNotice; try dsimp only
  (repeat' split) <;> simp
@[simp] theorem offerNotice_scs (n : Notice) (s : State) : (s.offerNotice n).scs = s.scs := by
  unfold State.offerNotice; try dsimp only
  (repeat' split) <;> simp
@[simp] theorem offerNotice_rpb (n : Notice) (s : State) : (s.offerNotice n).rpb = s.rpb := by
  unfold State.offerNotice; try dsimp only
  (repeat' split) <;> simp
@[simp] theorem offerNotice_tbs (n : Notice) (s : State) : (s.offerNotice n).tbs = s.tbs := by
  unfold State.offerNotice; try dsimp only
  (repeat' split) <;> simp
@[simp] theorem offerNotice_ldu (n : Notice) (s : State) : (s.offerNotice n).ldu = s.ldu := by
  unfold State.offerNotice; try dsimp only
  (repeat' split) <;> simp
@[simp] theorem offerNotice_cmu (n : Notice) (s : State) : (s.offerNotice n).cmu = s.cmu := by
  unfold State.offerNotice; try dsimp only
  (repeat' split) <;> simp
@[simp] theorem offerNotice_mli (n : Notice) (s : State) : (s.offerNotice n).mli = s.mli := by
  unfold State.offerNotice; try dsimp only
  (repeat' split) <;> simp
@[simp] theorem raise_pending (f : Flag) (q : Option Nat) (s : State) : (s.raise f q).pending = s.pending := by
  unfold State.raise; try dsimp only
  (repeat' split) <;> simp
@[simp] theorem raise_resetHeld (f : Flag) (q : Option Nat) (s : State) : (s.raise f q).resetHeld = s.resetHeld := by
  unfold State.raise; try dsimp only
  (repeat' split) <;> simp
@[simp] theorem raise_pins (f : Flag) (q : Option Nat) (s : State) : (s.raise f q).pins = s.pins := by
  unfold State.raise; try dsimp only
  (repeat' split) <;> simp
@[simp] theorem raise_ali (f : Flag) (q : Option Nat) (s : State) : (s.raise f q).ali = s.ali := by
  unfold State.raise; try dsimp only
  (repeat' split) <;> simp
@[simp] theorem raise_etu (f : Flag) (q : Option Nat) (s : State) : (s.raise f q).etu = s.etu := by
  unfold State.raise; try dsimp only
  (repeat' split) <;> simp
@[simp] theorem raise_rfs (f : Flag) (q : Option Nat) (s : State) : (s.raise f q).rfs = s.rfs := by
  unfold State.raise; try dsimp only
  (repeat' split) <;> simp
@[simp] theorem raise_tru (f : Flag) (q : Option Nat) (s : State) : (s.raise f q).tru = s.tru := by
  unfold State.raise; try dsimp only
  (repeat' split) <;> simp
@[simp] theorem raise_scs (f : Flag) (q : Option Nat) (s : State) : (s.raise f q).scs = s.scs := by
  unfold State.raise; try dsimp only
  (repeat' split) <;> simp
@[simp] theorem raise_rpb (f : Flag) (q : Option Nat) (s : State) : (s.raise f q).rpb = s.rpb := by
  unfold State.raise; try dsimp only
  (repeat' split) <;> simp
@[simp] theorem raise_tbs (f : Flag) (q : Option Nat) (s : State) : (s.raise f q).tbs = s.tbs := by
  unfold State.raise; try dsimp only
  (repeat' split) <;> simp
@[simp] theorem raise_ldu (f : Flag) (q : Option Nat) (s : State) : (s.raise f q).ldu = s.ldu := by
  unfold State.raise; try dsimp only
  (repeat' split) <;> simp
@[simp] theorem raise_cmu (f : Flag) (q : Option Nat) (s : State) : (s.raise f q).cmu = s.cmu := by
  unfold State.raise; try dsimp only
  (repeat' split) <;> simp
@[simp] theorem raise_mli (f : Flag) (q : Option Nat) (s : State) : (s.raise f q).mli = s.mli := by
  unfold State.raise; try dsimp only
  (repeat' split) <;> simp
@[simp] theorem clearFlag_pending (n : Nat) (f : Flag) (s : State) : (s.clearFlag n f).pending = s.pending := by
  unfold State.clearFlag; try dsimp only
  (repeat' split) <;> simp
@[simp] theorem clearFlag_resetHeld (n : Nat) (f : Flag) (s : State) : (s.clearFlag n f).resetHeld = s.resetHeld := by
  unfold State.clearFlag; try dsimp only
  (repeat' split) <;> simp
@[simp] theorem clearFlag_pins (n : Nat) (f : Flag) (s : State) : (s.clearFlag n f).pins = s.pins := by
  unfold State.clearFlag; try dsimp only
  (repeat' split) <;> simp
@[simp] theorem clearFlag_ali (n : Nat) (f : Flag) (s : State) : (s.clearFlag n f).ali = s.ali := by
  unfold State.clearFlag; try dsimp only
  (repeat' split) <;> simp
@[simp] theorem clearFlag_etu (n : Nat) (f : Flag) (s : State) : (s.clearFlag n f).etu = s.etu := by
  unfold State.clearFlag; try dsimp only
  (repeat' split) <;> simp
@[simp] theorem clearFlag_rfs (n : Nat) (f : Flag) (s : State) : (s.clearFlag n f).rfs = s.rfs := by
  unfold State.clearFlag; try dsimp only
  (repeat' split) <;> simp
@[simp] theorem clearFlag_tru (n : Nat) (f : Flag) (s : State) : (s.clearFlag n f).tru = s.tru := by
  unfold State.clearFlag; try dsimp only
  (repeat' split) <;> simp
@[simp] theorem clearFlag_scs (n : Nat) (f : Flag) (s : State) : (s.clearFlag n f).scs = s.scs := by
  unfold State.clearFlag; try dsimp only
  (repeat' split) <;> simp
@[simp] theorem clearFlag_rpb (n : Nat) (f : Flag) (s : State) : (s.clearFlag n f).rpb = s.rpb := by
  unfold State.clearFlag; try dsimp only
  (repeat' split) <;> simp
@[simp] theorem clearFlag_tbs (n : Nat) (f : Flag) (s : State) : (s.clearFlag n f).tbs = s.tbs := by
  unfold State.clearFlag; try dsimp only
  (repeat' split) <;> simp
@[simp] theorem clearFlag_ldu (n : Nat) (f : Flag) (s : State) : (s.clearFlag n f).ldu = s.ldu := by
  unfold State.clearFlag; try dsimp only
  (repeat' split) <;> simp
@[simp] theorem clearFlag_cmu (n : Nat) (f : Flag) (s : State) : (s.clearFlag n f).cmu = s.cmu := by
  unfold State.clearFlag; try dsimp only
  (repeat' split) <;> simp
@[simp] theorem clearFlag_mli (n : Nat) (f : Flag) (s : State) : (s.clearFlag n f).mli = s.mli := by
  unfold State.clearFlag; try dsimp only
  (repeat' split) <;> simp
@[simp] theorem clearFlag_counters (n : Nat) (f : Flag) (s : State) : (s.clearFlag n f).counters = s.counters := by
  unfold State.clearFlag; try dsimp only
  (repeat' split) <;> simp
@[simp] theorem maskFlag_pending (n : Nat) (f : Flag) (s : State) : (s.maskFlag n f).pending = s.pending := by
  unfold State.maskFlag; try dsimp only
  (repeat' split) <;> simp
@[simp] theorem maskFlag_resetHeld (n : Nat) (f : Flag) (s : State) : (s.maskFlag n f).resetHeld = s.resetHeld := by
  unfold State.maskFlag; try dsimp only
  (repeat' split) <;> simp
@[simp] theorem maskFlag_pins (n : Nat) (f : Flag) (s : State) : (s.maskFlag n f).pins = s.pins := by
  unfold State.maskFlag; try dsimp only
  (repeat' split) <;> simp
@[simp] theorem maskFlag_ali (n : Nat) (f : Flag) (s : State) : (s.maskFlag n f).ali = s.ali := by
  unfold State.maskFlag; try dsimp only
  (repeat' split) <;> simp
@[simp] theorem maskFlag_etu (n : Nat) (f : Flag) (s : State) : (s.maskFlag n f).etu = s.etu := by
  unfold State.maskFlag; try dsimp only
  (repeat' split) <;> simp
@[simp] theorem maskFlag_rfs (n : Nat) (f : Flag) (s : State) : (s.maskFlag n f).rfs = s.rfs := by
  unfold State.maskFlag; try dsimp only
  (repeat' split) <;> simp
@[simp] theorem maskFlag_tru (n : Nat) (f : Flag) (s : State) : (s.maskFlag n f).tru = s.tru := by
  unfold State.maskFlag; try dsimp only
  (repeat' split) <;> simp
@[simp] theorem maskFlag_scs (n : Nat) (f : Flag) (s : State) : (s.maskFlag n f).scs = s.scs := by
  unfold State.maskFlag; try dsimp only
  (repeat' split) <;> simp
@[simp] theorem maskFlag_rpb (n : Nat) (f : Flag) (s : State) : (s.maskFlag n f).rpb = s.rpb := by
  unfold State.maskFlag; try dsimp only
  (repeat' split) <;> simp
@[simp] theorem maskFlag_tbs (n : Nat) (f : Flag) (s : State) : (s.maskFlag n f).tbs = s.tbs := by
  unfold State.maskFlag; try dsimp only
  (repeat' split) <;> simp
@[simp] theorem maskFlag_ldu (n : Nat) (f : Flag) (s : State) : (s.maskFlag n f).ldu = s.ldu := by
  unfold State.maskFlag; try dsimp only
  (repeat' split) <;> simp
@[simp] theorem maskFlag_cmu (n : Nat) (f : Flag) (s : State) : (s.maskFlag n f).cmu = s.cmu := by
  unfold State.maskFlag; try dsimp only
  (repeat' split) <;> simp
@[simp] theorem maskFlag_mli (n : Nat) (f : Flag) (s : State) : (s.maskFlag n f).mli = s.mli := by
  unfold State.maskFlag; try dsimp only
  (repeat' split) <;> simp
@[simp] theorem setBacklog_pending (c : Fin 8) (n : Nat) (s : State) : (s.setBacklog c n).pending = s.pending := by
  unfold State.setBacklog; try dsimp only
  (repeat' split) <;> simp
@[simp] theorem setBacklog_resetHeld (c : Fin 8) (n : Nat) (s : State) : (s.setBacklog c n).resetHeld = s.resetHeld := by
  unfold State.setBacklog; try dsimp only
  (repeat' split) <;> simp
@[simp] theorem setBacklog_pins (c : Fin 8) (n : Nat) (s : State) : (s.setBacklog c n).pins = s.pins := by
  unfold State.setBacklog; try dsimp only
  (repeat' split) <;> simp
@[simp] theorem setBacklog_ali (c : Fin 8) (n : Nat) (s : State) : (s.setBacklog c n).ali = s.ali := by
  unfold State.setBacklog; try dsimp only
  (repeat' split) <;> simp
@[simp] theorem setBacklog_etu (c : Fin 8) (n : Nat) (s : State) : (s.setBacklog c n).etu = s.etu := by
  unfold State.setBacklog; try dsimp only
  (repeat' split) <;> simp
@[simp] theorem setBacklog_tru (c : Fin 8) (n : Nat) (s : State) : (s.setBacklog c n).tru = s.tru := by
  unfold State.setBacklog; try dsimp only
  (repeat' split) <;> simp
@[simp] theorem setBacklog_scs (c : Fin 8) (n : Nat) (s : State) : (s.setBacklog c n).scs = s.scs := by
  unfold State.setBacklog; try dsimp only
  (repeat' split) <;> simp
@[simp] theorem setBacklog_rpb (c : Fin 8) (n : Nat) (s : State) : (s.setBacklog c n).rpb = s.rpb := by
  unfold State.setBacklog; try dsimp only
  (repeat' split) <;> simp
@[simp] theorem setBacklog_tbs (c : Fin 8) (n : Nat) (s : State) : (s.setBacklog c n).tbs = s.tbs := by
  unfold State.setBacklog; try dsimp only
  (repeat' split) <;> simp
@[simp] theorem setBacklog_ldu (c : Fin 8) (n : Nat) (s : State) : (s.setBacklog c n).ldu = s.ldu := by
  unfold State.setBacklog; try dsimp only
  (repeat' split) <;> simp
@[simp] theorem setBacklog_cmu (c : Fin 8) (n : Nat) (s : State) : (s.setBacklog c n).cmu = s.cmu := by
  unfold State.setBacklog; try dsimp only
  (repeat' split) <;> simp
@[simp] theorem setBacklog_mli (c : Fin 8) (n : Nat) (s : State) : (s.setBacklog c n).mli = s.mli := by
  unfold State.setBacklog; try dsimp only
  (repeat' split) <;> simp
@[simp] theorem examine_pending (s : State) : s.examine.pending = s.pending := by
  unfold State.examine
  exact forChannels_keeps (·.pending) _ (fun c s => by split <;> simp) s
@[simp] theorem examine_resetHeld (s : State) : s.examine.resetHeld = s.resetHeld := by
  unfold State.examine
  exact forChannels_keeps (·.resetHeld) _ (fun c s => by split <;> simp) s
@[simp] theorem examine_pins (s : State) : s.examine.pins = s.pins := by
  unfold State.examine
  exact forChannels_keeps (·.pins) _ (fun c s => by split <;> simp) s
@[simp] theorem examine_etu (s : State) : s.examine.etu = s.etu := by
  unfold State.examine
  exact forChannels_keeps (·.etu) _ (fun c s => by split <;> simp) s
@[simp] theorem examine_tru (s : State) : s.examine.tru = s.tru := by
  unfold State.examine
  exact forChannels_keeps (·.tru) _ (fun c s => by split <;> simp) s
@[simp] theorem examine_scs (s : State) : s.examine.scs = s.scs := by
  unfold State.examine
  exact forChannels_keeps (·.scs) _ (fun c s => by split <;> simp) s
@[simp] theorem examine_rpb (s : State) : s.examine.rpb = s.rpb := by
  unfold State.examine
  exact forChannels_keeps (·.rpb) _ (fun c s => by split <;> simp) s
@[simp] theorem examine_tbs (s : State) : s.examine.tbs = s.tbs := by
  unfold State.examine
  exact forChannels_keeps (·.tbs) _ (fun c s => by split <;> simp) s
@[simp] theorem examine_ldu (s : State) : s.examine.ldu = s.ldu := by
  unfold State.examine
  exact forChannels_keeps (·.ldu) _ (fun c s => by split <;> simp) s
@[simp] theorem examine_evu (s : State) : s.examine.evu = s.evu := by
  unfold State.examine
  exact forChannels_keeps (·.evu) _ (fun c s => by split <;> simp) s
@[simp] theorem examine_cmu (s : State) : s.examine.cmu = s.cmu := by
  unfold State.examine
  exact forChannels_keeps (·.cmu) _ (fun c s => by split <;> simp) s
@[simp] theorem examine_mli (s : State) : s.examine.mli = s.mli := by
  unfold State.examine
  exact forChannels_keeps (·.mli) _ (fun c s => by split <;> simp) s
@[simp] theorem cancel_pending (c : Fin 8) (s : State) : (s.cancel c).pending = s.pending := by
  unfold State.cancel; try dsimp only
  (repeat' split) <;> simp
@[simp] theorem cancel_resetHeld (c : Fin 8) (s : State) : (s.cancel c).resetHeld = s.resetHeld := by
  unfold State.cancel; try dsimp only
  (repeat' split) <;> simp
@[simp] theorem cancel_pins (c : Fin 8) (s : State) : (s.cancel c).pins = s.pins := by
  unfold State.cancel; try dsimp only
  (repeat' split) <;> simp
@[simp] theorem cancel_etu (c : Fin 8) (s : State) : (s.cancel c).etu = s.etu := by
  unfold State.cancel; try dsimp only
  (repeat' split) <;> simp
@[simp] theorem cancel_tru (c : Fin 8) (s : State) : (s.cancel c).tru = s.tru := by
  unfold State.cancel; try dsimp only
  (repeat' split) <;> simp
@[simp] theorem cancel_scs (c : Fin 8) (s : State) : (s.cancel c).scs = s.scs := by
  unfold State.cancel; try dsimp only
  (repeat' split) <;> simp
@[simp] theorem cancel_rpb (c : Fin 8) (s : State) : (s.cancel c).rpb = s.rpb := by
  unfold State.cancel; try dsimp only
  (repeat' split) <;> simp
@[simp] theorem cancel_tbs (c : Fin 8) (s : State) : (s.cancel c).tbs = s.tbs := by
  unfold State.cancel; try dsimp only
  (repeat' split) <;> simp
@[simp] theorem cancel_ldu (c : Fin 8) (s : State) : (s.cancel c).ldu = s.ldu := by
  unfold State.cancel; try dsimp only
  (repeat' split) <;> simp
@[simp] theorem cancel_evu (c : Fin 8) (s : State) : (s.cancel c).evu = s.evu := by
  unfold State.cancel; try dsimp only
  (repeat' split) <;> simp
@[simp] theorem cancel_cmu (c : Fin 8) (s : State) : (s.cancel c).cmu = s.cmu := by
  unfold State.cancel; try dsimp only
  (repeat' split) <;> simp
@[simp] theorem cancel_mli (c : Fin 8) (s : State) : (s.cancel c).mli = s.mli := by
  unfold State.cancel; try dsimp only
  (repeat' split) <;> simp
@[simp] theorem cancelAll_pending (s : State) : s.cancelAll.pending = s.pending := by
  unfold State.cancelAll
  exact forChannels_keeps (·.pending) _ (fun c s => by simp) s
@[simp] theorem cancelAll_resetHeld (s : State) : s.cancelAll.resetHeld = s.resetHeld := by
  unfold State.cancelAll
  exact forChannels_keeps (·.resetHeld) _ (fun c s => by simp) s
@[simp] theorem cancelAll_pins (s : State) : s.cancelAll.pins = s.pins := by
  unfold State.cancelAll
  exact forChannels_keeps (·.pins) _ (fun c s => by simp) s
@[simp] theorem cancelAll_etu (s : State) : s.cancelAll.etu = s.etu := by
  unfold State.cancelAll
  exact forChannels_keeps (·.etu) _ (fun c s => by simp) s
@[simp] theorem cancelAll_tru (s : State) : s.cancelAll.tru = s.tru := by
  unfold State.cancelAll
  exact forChannels_keeps (·.tru) _ (fun c s => by simp) s
@[simp] theorem cancelAll_scs (s : State) : s.cancelAll.scs = s.scs := by
  unfold State.cancelAll
  exact forChannels_keeps (·.scs) _ (fun c s => by simp) s
@[simp] theorem cancelAll_rpb (s : State) : s.cancelAll.rpb = s.rpb := by
  unfold State.cancelAll
  exact forChannels_keeps (·.rpb) _ (fun c s => by simp) s
@[simp] theorem cancelAll_tbs (s : State) : s.cancelAll.tbs = s.tbs := by
  unfold State.cancelAll
  exact forChannels_keeps (·.tbs) _ (fun c s => by simp) s
@[simp] theorem cancelAll_ldu (s : State) : s.cancelAll.ldu = s.ldu := by
  unfold State.cancelAll
  exact forChannels_keeps (·.ldu) _ (fun c s => by simp) s
@[simp] theorem cancelAll_evu (s : State) : s.cancelAll.evu = s.evu := by
  unfold State.cancelAll
  exact forChannels_keeps (·.evu) _ (fun c s => by simp) s
@[simp] theorem cancelAll_cmu (s : State) : s.cancelAll.cmu = s.cmu := by
  unfold State.cancelAll
  exact forChannels_keeps (·.cmu) _ (fun c s => by simp) s
@[simp] theorem cancelAll_mli (s : State) : s.cancelAll.mli = s.mli := by
  unfold State.cancelAll
  exact forChannels_keeps (·.mli) _ (fun c s => by simp) s
@[simp] theorem reportDrained_pending (b s : State) : (b.reportDrained s).pending = s.pending := by
  unfold State.reportDrained; split <;> rfl
@[simp] theorem reportDrained_resetHeld (b s : State) : (b.reportDrained s).resetHeld = s.resetHeld := by
  unfold State.reportDrained; split <;> rfl
@[simp] theorem reportDrained_pins (b s : State) : (b.reportDrained s).pins = s.pins := by
  unfold State.reportDrained; split <;> rfl
@[simp] theorem reportDrained_ali (b s : State) : (b.reportDrained s).ali = s.ali := by
  unfold State.reportDrained; split <;> rfl
@[simp] theorem reportDrained_etu (b s : State) : (b.reportDrained s).etu = s.etu := by
  unfold State.reportDrained; split <;> rfl
@[simp] theorem reportDrained_tru (b s : State) : (b.reportDrained s).tru = s.tru := by
  unfold State.reportDrained; split <;> rfl
@[simp] theorem reportDrained_scs (b s : State) : (b.reportDrained s).scs = s.scs := by
  unfold State.reportDrained; split <;> rfl
@[simp] theorem reportDrained_rpb (b s : State) : (b.reportDrained s).rpb = s.rpb := by
  unfold State.reportDrained; split <;> rfl
@[simp] theorem reportDrained_tbs (b s : State) : (b.reportDrained s).tbs = s.tbs := by
  unfold State.reportDrained; split <;> rfl
@[simp] theorem reportDrained_ldu (b s : State) : (b.reportDrained s).ldu = s.ldu := by
  unfold State.reportDrained; split <;> rfl
@[simp] theorem reportDrained_evu (b s : State) : (b.reportDrained s).evu = s.evu := by
  unfold State.reportDrained; split <;> rfl
@[simp] theorem reportDrained_cmu (b s : State) : (b.reportDrained s).cmu = s.cmu := by
  unfold State.reportDrained; split <;> rfl
@[simp] theorem reportDrained_mli (b s : State) : (b.reportDrained s).mli = s.mli := by
  unfold State.reportDrained; split <;> rfl
@[simp] theorem reportDrained_counters (b s : State) : (b.reportDrained s).counters = s.counters := by
  unfold State.reportDrained; split <;> rfl
@[simp] theorem leaveParked_pending (s : State) : s.leaveParked.pending = s.pending := by
  unfold State.leaveParked
  split
  · rfl
  · exact forChannels_keeps (·.pending) _ (fun c s => by split <;> simp) s
@[simp] theorem leaveParked_resetHeld (s : State) : s.leaveParked.resetHeld = s.resetHeld := by
  unfold State.leaveParked
  split
  · rfl
  · exact forChannels_keeps (·.resetHeld) _ (fun c s => by split <;> simp) s
@[simp] theorem leaveParked_pins (s : State) : s.leaveParked.pins = s.pins := by
  unfold State.leaveParked
  split
  · rfl
  · exact forChannels_keeps (·.pins) _ (fun c s => by split <;> simp) s
@[simp] theorem leaveParked_ali (s : State) : s.leaveParked.ali = s.ali := by
  unfold State.leaveParked
  split
  · rfl
  · exact forChannels_keeps (·.ali) _ (fun c s => by split <;> simp) s
@[simp] theorem leaveParked_etu (s : State) : s.leaveParked.etu = s.etu := by
  unfold State.leaveParked
  split
  · rfl
  · exact forChannels_keeps (·.etu) _ (fun c s => by split <;> simp) s
@[simp] theorem leaveParked_tru (s : State) : s.leaveParked.tru = s.tru := by
  unfold State.leaveParked
  split
  · rfl
  · exact forChannels_keeps (·.tru) _ (fun c s => by split <;> simp) s
@[simp] theorem leaveParked_scs (s : State) : s.leaveParked.scs = s.scs := by
  unfold State.leaveParked
  split
  · rfl
  · exact forChannels_keeps (·.scs) _ (fun c s => by split <;> simp) s
@[simp] theorem leaveParked_rpb (s : State) : s.leaveParked.rpb = s.rpb := by
  unfold State.leaveParked
  split
  · rfl
  · exact forChannels_keeps (·.rpb) _ (fun c s => by split <;> simp) s
@[simp] theorem leaveParked_tbs (s : State) : s.leaveParked.tbs = s.tbs := by
  unfold State.leaveParked
  split
  · rfl
  · exact forChannels_keeps (·.tbs) _ (fun c s => by split <;> simp) s
@[simp] theorem leaveParked_ldu (s : State) : s.leaveParked.ldu = s.ldu := by
  unfold State.leaveParked
  split
  · rfl
  · exact forChannels_keeps (·.ldu) _ (fun c s => by split <;> simp) s
@[simp] theorem leaveParked_cmu (s : State) : s.leaveParked.cmu = s.cmu := by
  unfold State.leaveParked
  split
  · rfl
  · exact forChannels_keeps (·.cmu) _ (fun c s => by split <;> simp) s
@[simp] theorem leaveParked_mli (s : State) : s.leaveParked.mli = s.mli := by
  unfold State.leaveParked
  split
  · rfl
  · exact forChannels_keeps (·.mli) _ (fun c s => by split <;> simp) s
@[simp] theorem toMode_pending (m : Mode) (s : State) : (s.toMode m).pending = s.pending := by
  simp [State.toMode]
@[simp] theorem toMode_resetHeld (m : Mode) (s : State) : (s.toMode m).resetHeld = s.resetHeld := by
  simp [State.toMode]
@[simp] theorem toMode_pins (m : Mode) (s : State) : (s.toMode m).pins = s.pins := by
  simp [State.toMode]
@[simp] theorem toMode_etu (m : Mode) (s : State) : (s.toMode m).etu = s.etu := by
  simp [State.toMode]
@[simp] theorem toMode_tru (m : Mode) (s : State) : (s.toMode m).tru = s.tru := by
  simp [State.toMode]
@[simp] theorem toMode_rpb (m : Mode) (s : State) : (s.toMode m).rpb = s.rpb := by
  simp [State.toMode]
@[simp] theorem toMode_tbs (m : Mode) (s : State) : (s.toMode m).tbs = s.tbs := by
  simp [State.toMode]
@[simp] theorem toMode_ldu (m : Mode) (s : State) : (s.toMode m).ldu = s.ldu := by
  simp [State.toMode]
@[simp] theorem toMode_evu (m : Mode) (s : State) : (s.toMode m).evu = s.evu := by
  simp [State.toMode]
@[simp] theorem toMode_cmu (m : Mode) (s : State) : (s.toMode m).cmu = s.cmu := by
  simp [State.toMode]
@[simp] theorem toMode_mli (m : Mode) (s : State) : (s.toMode m).mli = s.mli := by
  simp [State.toMode]
@[simp] theorem renewReference_pending (c : Fin 8) (s : State) : (s.renewReference c).pending = s.pending := by
  simp [State.renewReference]
@[simp] theorem renewReference_resetHeld (c : Fin 8) (s : State) : (s.renewReference c).resetHeld = s.resetHeld := by
  simp [State.renewReference]
@[simp] theorem renewReference_pins (c : Fin 8) (s : State) : (s.renewReference c).pins = s.pins := by
  simp [State.renewReference]
@[simp] theorem renewReference_ali (c : Fin 8) (s : State) : (s.renewReference c).ali = s.ali := by
  simp [State.renewReference]
@[simp] theorem renewReference_etu (c : Fin 8) (s : State) : (s.renewReference c).etu = s.etu := by
  simp [State.renewReference]
@[simp] theorem renewReference_tru (c : Fin 8) (s : State) : (s.renewReference c).tru = s.tru := by
  simp [State.renewReference]
@[simp] theorem renewReference_scs (c : Fin 8) (s : State) : (s.renewReference c).scs = s.scs := by
  simp [State.renewReference]
@[simp] theorem renewReference_rpb (c : Fin 8) (s : State) : (s.renewReference c).rpb = s.rpb := by
  simp [State.renewReference]
@[simp] theorem renewReference_tbs (c : Fin 8) (s : State) : (s.renewReference c).tbs = s.tbs := by
  simp [State.renewReference]
@[simp] theorem renewReference_ldu (c : Fin 8) (s : State) : (s.renewReference c).ldu = s.ldu := by
  simp [State.renewReference]
@[simp] theorem renewReference_cmu (c : Fin 8) (s : State) : (s.renewReference c).cmu = s.cmu := by
  simp [State.renewReference]
@[simp] theorem renewReference_mli (c : Fin 8) (s : State) : (s.renewReference c).mli = s.mli := by
  simp [State.renewReference]
@[simp] theorem applyReferenceChange_pending (c : Fin 8) (h : SlotChange) (s : State) : (s.applyReferenceChange c h).pending = s.pending := by
  cases h <;> simp [State.applyReferenceChange]
@[simp] theorem applyReferenceChange_resetHeld (c : Fin 8) (h : SlotChange) (s : State) : (s.applyReferenceChange c h).resetHeld = s.resetHeld := by
  cases h <;> simp [State.applyReferenceChange]
@[simp] theorem applyReferenceChange_pins (c : Fin 8) (h : SlotChange) (s : State) : (s.applyReferenceChange c h).pins = s.pins := by
  cases h <;> simp [State.applyReferenceChange]
@[simp] theorem applyReferenceChange_etu (c : Fin 8) (h : SlotChange) (s : State) : (s.applyReferenceChange c h).etu = s.etu := by
  cases h <;> simp [State.applyReferenceChange]
@[simp] theorem applyReferenceChange_tru (c : Fin 8) (h : SlotChange) (s : State) : (s.applyReferenceChange c h).tru = s.tru := by
  cases h <;> simp [State.applyReferenceChange]
@[simp] theorem applyReferenceChange_scs (c : Fin 8) (h : SlotChange) (s : State) : (s.applyReferenceChange c h).scs = s.scs := by
  cases h <;> simp [State.applyReferenceChange]
@[simp] theorem applyReferenceChange_rpb (c : Fin 8) (h : SlotChange) (s : State) : (s.applyReferenceChange c h).rpb = s.rpb := by
  cases h <;> simp [State.applyReferenceChange]
@[simp] theorem applyReferenceChange_tbs (c : Fin 8) (h : SlotChange) (s : State) : (s.applyReferenceChange c h).tbs = s.tbs := by
  cases h <;> simp [State.applyReferenceChange]
@[simp] theorem applyReferenceChange_ldu (c : Fin 8) (h : SlotChange) (s : State) : (s.applyReferenceChange c h).ldu = s.ldu := by
  cases h <;> simp [State.applyReferenceChange]
@[simp] theorem applyReferenceChange_cmu (c : Fin 8) (h : SlotChange) (s : State) : (s.applyReferenceChange c h).cmu = s.cmu := by
  cases h <;> simp [State.applyReferenceChange]
@[simp] theorem applyReferenceChange_mli (c : Fin 8) (h : SlotChange) (s : State) : (s.applyReferenceChange c h).mli = s.mli := by
  cases h <;> simp [State.applyReferenceChange]
@[simp] theorem startDeparture_pending (s : State) : (s.startDeparture).pending = s.pending := by
  unfold State.startDeparture; try dsimp only
  (repeat' split) <;> simp
@[simp] theorem startDeparture_resetHeld (s : State) : (s.startDeparture).resetHeld = s.resetHeld := by
  unfold State.startDeparture; try dsimp only
  (repeat' split) <;> simp
@[simp] theorem startDeparture_pins (s : State) : (s.startDeparture).pins = s.pins := by
  unfold State.startDeparture; try dsimp only
  (repeat' split) <;> simp
@[simp] theorem startDeparture_ali (s : State) : (s.startDeparture).ali = s.ali := by
  unfold State.startDeparture; try dsimp only
  (repeat' split) <;> simp
@[simp] theorem startDeparture_etu (s : State) : (s.startDeparture).etu = s.etu := by
  unfold State.startDeparture; try dsimp only
  (repeat' split) <;> simp
@[simp] theorem startDeparture_rfs (s : State) : (s.startDeparture).rfs = s.rfs := by
  unfold State.startDeparture; try dsimp only
  (repeat' split) <;> simp
@[simp] theorem startDeparture_scs (s : State) : (s.startDeparture).scs = s.scs := by
  unfold State.startDeparture; try dsimp only
  (repeat' split) <;> simp
@[simp] theorem startDeparture_rpb (s : State) : (s.startDeparture).rpb = s.rpb := by
  unfold State.startDeparture; try dsimp only
  (repeat' split) <;> simp
@[simp] theorem startDeparture_tbs (s : State) : (s.startDeparture).tbs = s.tbs := by
  unfold State.startDeparture; try dsimp only
  (repeat' split) <;> simp
@[simp] theorem startDeparture_ldu (s : State) : (s.startDeparture).ldu = s.ldu := by
  unfold State.startDeparture; try dsimp only
  (repeat' split) <;> simp
@[simp] theorem startDeparture_evu (s : State) : (s.startDeparture).evu = s.evu := by
  unfold State.startDeparture; try dsimp only
  (repeat' split) <;> simp
@[simp] theorem startDeparture_cmu (s : State) : (s.startDeparture).cmu = s.cmu := by
  unfold State.startDeparture; try dsimp only
  (repeat' split) <;> simp
@[simp] theorem startDeparture_mli (s : State) : (s.startDeparture).mli = s.mli := by
  unfold State.startDeparture; try dsimp only
  (repeat' split) <;> simp
@[simp] theorem startDeparture_counters (s : State) : (s.startDeparture).counters = s.counters := by
  unfold State.startDeparture; try dsimp only
  (repeat' split) <;> simp
@[simp] theorem applyDetectorChange_pending (l : Option LineSetup) (s : State) : (s.applyDetectorChange l).pending = s.pending := by
  unfold State.applyDetectorChange; try dsimp only
  (repeat' split) <;> simp
@[simp] theorem applyDetectorChange_resetHeld (l : Option LineSetup) (s : State) : (s.applyDetectorChange l).resetHeld = s.resetHeld := by
  unfold State.applyDetectorChange; try dsimp only
  (repeat' split) <;> simp
@[simp] theorem applyDetectorChange_pins (l : Option LineSetup) (s : State) : (s.applyDetectorChange l).pins = s.pins := by
  unfold State.applyDetectorChange; try dsimp only
  (repeat' split) <;> simp
@[simp] theorem applyDetectorChange_ali (l : Option LineSetup) (s : State) : (s.applyDetectorChange l).ali = s.ali := by
  unfold State.applyDetectorChange; try dsimp only
  (repeat' split) <;> simp
@[simp] theorem applyDetectorChange_etu (l : Option LineSetup) (s : State) : (s.applyDetectorChange l).etu = s.etu := by
  unfold State.applyDetectorChange; try dsimp only
  (repeat' split) <;> simp
@[simp] theorem applyDetectorChange_rfs (l : Option LineSetup) (s : State) : (s.applyDetectorChange l).rfs = s.rfs := by
  unfold State.applyDetectorChange; try dsimp only
  (repeat' split) <;> simp
@[simp] theorem applyDetectorChange_scs (l : Option LineSetup) (s : State) : (s.applyDetectorChange l).scs = s.scs := by
  unfold State.applyDetectorChange; try dsimp only
  (repeat' split) <;> simp
@[simp] theorem applyDetectorChange_rpb (l : Option LineSetup) (s : State) : (s.applyDetectorChange l).rpb = s.rpb := by
  unfold State.applyDetectorChange; try dsimp only
  (repeat' split) <;> simp
@[simp] theorem applyDetectorChange_tbs (l : Option LineSetup) (s : State) : (s.applyDetectorChange l).tbs = s.tbs := by
  unfold State.applyDetectorChange; try dsimp only
  (repeat' split) <;> simp
@[simp] theorem applyDetectorChange_ldu (l : Option LineSetup) (s : State) : (s.applyDetectorChange l).ldu = s.ldu := by
  unfold State.applyDetectorChange; try dsimp only
  (repeat' split) <;> simp
@[simp] theorem applyDetectorChange_evu (l : Option LineSetup) (s : State) : (s.applyDetectorChange l).evu = s.evu := by
  unfold State.applyDetectorChange; try dsimp only
  (repeat' split) <;> simp
@[simp] theorem applyDetectorChange_cmu (l : Option LineSetup) (s : State) : (s.applyDetectorChange l).cmu = s.cmu := by
  unfold State.applyDetectorChange; try dsimp only
  (repeat' split) <;> simp
@[simp] theorem applyDetectorChange_mli (l : Option LineSetup) (s : State) : (s.applyDetectorChange l).mli = s.mli := by
  unfold State.applyDetectorChange; try dsimp only
  (repeat' split) <;> simp
@[simp] theorem applyDetectorChange_counters (l : Option LineSetup) (s : State) : (s.applyDetectorChange l).counters = s.counters := by
  unfold State.applyDetectorChange; try dsimp only
  (repeat' split) <;> simp
@[simp] theorem replaceActive_pending (s : State) : (s.replaceActive).pending = s.pending := rfl
@[simp] theorem replaceActive_resetHeld (s : State) : (s.replaceActive).resetHeld = s.resetHeld := rfl
@[simp] theorem replaceActive_pins (s : State) : (s.replaceActive).pins = s.pins := rfl
@[simp] theorem replaceActive_ali (s : State) : (s.replaceActive).ali = s.ali := rfl
@[simp] theorem replaceActive_etu (s : State) : (s.replaceActive).etu = s.etu := rfl
@[simp] theorem replaceActive_rfs (s : State) : (s.replaceActive).rfs = s.rfs := rfl
@[simp] theorem replaceActive_tru (s : State) : (s.replaceActive).tru = s.tru := rfl
@[simp] theorem replaceActive_scs (s : State) : (s.replaceActive).scs = s.scs := rfl
@[simp] theorem replaceActive_rpb (s : State) : (s.replaceActive).rpb = s.rpb := rfl
@[simp] theorem replaceActive_ldu (s : State) : (s.replaceActive).ldu = s.ldu := rfl
@[simp] theorem replaceActive_evu (s : State) : (s.replaceActive).evu = s.evu := rfl
@[simp] theorem replaceActive_cmu (s : State) : (s.replaceActive).cmu = s.cmu := rfl
@[simp] theorem replaceActive_mli (s : State) : (s.replaceActive).mli = s.mli := rfl
@[simp] theorem replaceActive_counters (s : State) : (s.replaceActive).counters = s.counters := rfl
@[simp] theorem reportToEtu_pending (b : TableSet) (s : State) : (s.reportToEtu b).pending = s.pending :=
  forChannels_keeps (·.pending) _ (fun c s => by simp) s
@[simp] theorem reportToEtu_resetHeld (b : TableSet) (s : State) : (s.reportToEtu b).resetHeld = s.resetHeld :=
  forChannels_keeps (·.resetHeld) _ (fun c s => by simp) s
@[simp] theorem reportToEtu_pins (b : TableSet) (s : State) : (s.reportToEtu b).pins = s.pins :=
  forChannels_keeps (·.pins) _ (fun c s => by simp) s
@[simp] theorem reportToEtu_ali (b : TableSet) (s : State) : (s.reportToEtu b).ali = s.ali :=
  forChannels_keeps (·.ali) _ (fun c s => by simp) s
@[simp] theorem reportToEtu_rfs (b : TableSet) (s : State) : (s.reportToEtu b).rfs = s.rfs :=
  forChannels_keeps (·.rfs) _ (fun c s => by simp) s
@[simp] theorem reportToEtu_tru (b : TableSet) (s : State) : (s.reportToEtu b).tru = s.tru :=
  forChannels_keeps (·.tru) _ (fun c s => by simp) s
@[simp] theorem reportToEtu_scs (b : TableSet) (s : State) : (s.reportToEtu b).scs = s.scs :=
  forChannels_keeps (·.scs) _ (fun c s => by simp) s
@[simp] theorem reportToEtu_rpb (b : TableSet) (s : State) : (s.reportToEtu b).rpb = s.rpb :=
  forChannels_keeps (·.rpb) _ (fun c s => by simp) s
@[simp] theorem reportToEtu_tbs (b : TableSet) (s : State) : (s.reportToEtu b).tbs = s.tbs :=
  forChannels_keeps (·.tbs) _ (fun c s => by simp) s
@[simp] theorem reportToEtu_ldu (b : TableSet) (s : State) : (s.reportToEtu b).ldu = s.ldu :=
  forChannels_keeps (·.ldu) _ (fun c s => by simp) s
@[simp] theorem reportToEtu_evu (b : TableSet) (s : State) : (s.reportToEtu b).evu = s.evu :=
  forChannels_keeps (·.evu) _ (fun c s => by simp) s
@[simp] theorem reportToEtu_cmu (b : TableSet) (s : State) : (s.reportToEtu b).cmu = s.cmu :=
  forChannels_keeps (·.cmu) _ (fun c s => by simp) s
@[simp] theorem reportToEtu_mli (b : TableSet) (s : State) : (s.reportToEtu b).mli = s.mli :=
  forChannels_keeps (·.mli) _ (fun c s => by simp) s
@[simp] theorem reportToEtu_counters (b : TableSet) (s : State) : (s.reportToEtu b).counters = s.counters :=
  forChannels_keeps (·.counters) _ (fun c s => by simp) s
@[simp] theorem reportToRfs_pending (b : TableSet) (s : State) : (s.reportToRfs b).pending = s.pending := by
  unfold State.reportToRfs
  rw [examine_pending]
  exact forChannels_keeps (·.pending) _ (fun c s => by simp) s
@[simp] theorem reportToRfs_resetHeld (b : TableSet) (s : State) : (s.reportToRfs b).resetHeld = s.resetHeld := by
  unfold State.reportToRfs
  rw [examine_resetHeld]
  exact forChannels_keeps (·.resetHeld) _ (fun c s => by simp) s
@[simp] theorem reportToRfs_pins (b : TableSet) (s : State) : (s.reportToRfs b).pins = s.pins := by
  unfold State.reportToRfs
  rw [examine_pins]
  exact forChannels_keeps (·.pins) _ (fun c s => by simp) s
@[simp] theorem reportToRfs_etu (b : TableSet) (s : State) : (s.reportToRfs b).etu = s.etu := by
  unfold State.reportToRfs
  rw [examine_etu]
  exact forChannels_keeps (·.etu) _ (fun c s => by simp) s
@[simp] theorem reportToRfs_tru (b : TableSet) (s : State) : (s.reportToRfs b).tru = s.tru := by
  unfold State.reportToRfs
  rw [examine_tru]
  exact forChannels_keeps (·.tru) _ (fun c s => by simp) s
@[simp] theorem reportToRfs_scs (b : TableSet) (s : State) : (s.reportToRfs b).scs = s.scs := by
  unfold State.reportToRfs
  rw [examine_scs]
  exact forChannels_keeps (·.scs) _ (fun c s => by simp) s
@[simp] theorem reportToRfs_rpb (b : TableSet) (s : State) : (s.reportToRfs b).rpb = s.rpb := by
  unfold State.reportToRfs
  rw [examine_rpb]
  exact forChannels_keeps (·.rpb) _ (fun c s => by simp) s
@[simp] theorem reportToRfs_tbs (b : TableSet) (s : State) : (s.reportToRfs b).tbs = s.tbs := by
  unfold State.reportToRfs
  rw [examine_tbs]
  exact forChannels_keeps (·.tbs) _ (fun c s => by simp) s
@[simp] theorem reportToRfs_ldu (b : TableSet) (s : State) : (s.reportToRfs b).ldu = s.ldu := by
  unfold State.reportToRfs
  rw [examine_ldu]
  exact forChannels_keeps (·.ldu) _ (fun c s => by simp) s
@[simp] theorem reportToRfs_cmu (b : TableSet) (s : State) : (s.reportToRfs b).cmu = s.cmu := by
  unfold State.reportToRfs
  rw [examine_cmu]
  exact forChannels_keeps (·.cmu) _ (fun c s => by simp) s
@[simp] theorem reportToRfs_mli (b : TableSet) (s : State) : (s.reportToRfs b).mli = s.mli := by
  unfold State.reportToRfs
  rw [examine_mli]
  exact forChannels_keeps (·.mli) _ (fun c s => by simp) s
@[simp] theorem leaveUnconfigured_pending (s : State) : (s.leaveUnconfigured).pending = s.pending := by
  unfold State.leaveUnconfigured; try dsimp only
  (repeat' split) <;> simp
@[simp] theorem leaveUnconfigured_resetHeld (s : State) : (s.leaveUnconfigured).resetHeld = s.resetHeld := by
  unfold State.leaveUnconfigured; try dsimp only
  (repeat' split) <;> simp
@[simp] theorem leaveUnconfigured_pins (s : State) : (s.leaveUnconfigured).pins = s.pins := by
  unfold State.leaveUnconfigured; try dsimp only
  (repeat' split) <;> simp
@[simp] theorem leaveUnconfigured_etu (s : State) : (s.leaveUnconfigured).etu = s.etu := by
  unfold State.leaveUnconfigured; try dsimp only
  (repeat' split) <;> simp
@[simp] theorem leaveUnconfigured_tru (s : State) : (s.leaveUnconfigured).tru = s.tru := by
  unfold State.leaveUnconfigured; try dsimp only
  (repeat' split) <;> simp
@[simp] theorem leaveUnconfigured_rpb (s : State) : (s.leaveUnconfigured).rpb = s.rpb := by
  unfold State.leaveUnconfigured; try dsimp only
  (repeat' split) <;> simp
@[simp] theorem leaveUnconfigured_tbs (s : State) : (s.leaveUnconfigured).tbs = s.tbs := by
  unfold State.leaveUnconfigured; try dsimp only
  (repeat' split) <;> simp
@[simp] theorem leaveUnconfigured_ldu (s : State) : (s.leaveUnconfigured).ldu = s.ldu := by
  unfold State.leaveUnconfigured; try dsimp only
  (repeat' split) <;> simp
@[simp] theorem leaveUnconfigured_evu (s : State) : (s.leaveUnconfigured).evu = s.evu := by
  unfold State.leaveUnconfigured; try dsimp only
  (repeat' split) <;> simp
@[simp] theorem leaveUnconfigured_cmu (s : State) : (s.leaveUnconfigured).cmu = s.cmu := by
  unfold State.leaveUnconfigured; try dsimp only
  (repeat' split) <;> simp
@[simp] theorem leaveUnconfigured_mli (s : State) : (s.leaveUnconfigured).mli = s.mli := by
  unfold State.leaveUnconfigured; try dsimp only
  (repeat' split) <;> simp
@[simp] theorem applyActivation_pending (s : State) : (s.applyActivation).pending = s.pending := by
  simp [State.applyActivation]
@[simp] theorem applyActivation_resetHeld (s : State) : (s.applyActivation).resetHeld = s.resetHeld := by
  simp [State.applyActivation]
@[simp] theorem applyActivation_pins (s : State) : (s.applyActivation).pins = s.pins := by
  simp [State.applyActivation]
@[simp] theorem applyActivation_rpb (s : State) : (s.applyActivation).rpb = s.rpb := by
  simp [State.applyActivation]
@[simp] theorem applyActivation_ldu (s : State) : (s.applyActivation).ldu = s.ldu := by
  simp [State.applyActivation]
@[simp] theorem applyActivation_cmu (s : State) : (s.applyActivation).cmu = s.cmu := by
  simp [State.applyActivation]
@[simp] theorem applyActivation_mli (s : State) : (s.applyActivation).mli = s.mli := by
  simp [State.applyActivation]
@[simp] theorem enterParking_pending (s : State) : (s.enterParking).pending = s.pending := by
  simp [State.enterParking]
@[simp] theorem enterParking_resetHeld (s : State) : (s.enterParking).resetHeld = s.resetHeld := by
  simp [State.enterParking]
@[simp] theorem enterParking_pins (s : State) : (s.enterParking).pins = s.pins := by
  simp [State.enterParking]
@[simp] theorem enterParking_etu (s : State) : (s.enterParking).etu = s.etu := by
  simp [State.enterParking]
@[simp] theorem enterParking_tru (s : State) : (s.enterParking).tru = s.tru := by
  simp [State.enterParking]
@[simp] theorem enterParking_rpb (s : State) : (s.enterParking).rpb = s.rpb := by
  simp [State.enterParking]
@[simp] theorem enterParking_tbs (s : State) : (s.enterParking).tbs = s.tbs := by
  simp [State.enterParking]
@[simp] theorem enterParking_ldu (s : State) : (s.enterParking).ldu = s.ldu := by
  simp [State.enterParking]
@[simp] theorem enterParking_evu (s : State) : (s.enterParking).evu = s.evu := by
  simp [State.enterParking]
@[simp] theorem enterParking_cmu (s : State) : (s.enterParking).cmu = s.cmu := by
  simp [State.enterParking]
@[simp] theorem enterParking_mli (s : State) : (s.enterParking).mli = s.mli := by
  simp [State.enterParking]
@[simp] theorem enterParked_pending (s : State) : (s.enterParked).pending = s.pending := by
  simp [State.enterParked]
@[simp] theorem enterParked_resetHeld (s : State) : (s.enterParked).resetHeld = s.resetHeld := by
  simp [State.enterParked]
@[simp] theorem enterParked_pins (s : State) : (s.enterParked).pins = s.pins := by
  simp [State.enterParked]
@[simp] theorem enterParked_etu (s : State) : (s.enterParked).etu = s.etu := by
  simp [State.enterParked]
@[simp] theorem enterParked_tru (s : State) : (s.enterParked).tru = s.tru := by
  simp [State.enterParked]
@[simp] theorem enterParked_rpb (s : State) : (s.enterParked).rpb = s.rpb := by
  simp [State.enterParked]
@[simp] theorem enterParked_tbs (s : State) : (s.enterParked).tbs = s.tbs := by
  simp [State.enterParked]
@[simp] theorem enterParked_ldu (s : State) : (s.enterParked).ldu = s.ldu := by
  simp [State.enterParked]
@[simp] theorem enterParked_cmu (s : State) : (s.enterParked).cmu = s.cmu := by
  simp [State.enterParked]
@[simp] theorem enterParked_mli (s : State) : (s.enterParked).mli = s.mli := by
  simp [State.enterParked]
@[simp] theorem settleMode_pending (s : State) : (s.settleMode).pending = s.pending := by
  unfold State.settleMode; try dsimp only
  (repeat' split) <;> simp
@[simp] theorem settleMode_resetHeld (s : State) : (s.settleMode).resetHeld = s.resetHeld := by
  unfold State.settleMode; try dsimp only
  (repeat' split) <;> simp
@[simp] theorem settleMode_pins (s : State) : (s.settleMode).pins = s.pins := by
  unfold State.settleMode; try dsimp only
  (repeat' split) <;> simp
@[simp] theorem settleMode_etu (s : State) : (s.settleMode).etu = s.etu := by
  unfold State.settleMode; try dsimp only
  (repeat' split) <;> simp
@[simp] theorem settleMode_tru (s : State) : (s.settleMode).tru = s.tru := by
  unfold State.settleMode; try dsimp only
  (repeat' split) <;> simp
@[simp] theorem settleMode_rpb (s : State) : (s.settleMode).rpb = s.rpb := by
  unfold State.settleMode; try dsimp only
  (repeat' split) <;> simp
@[simp] theorem settleMode_tbs (s : State) : (s.settleMode).tbs = s.tbs := by
  unfold State.settleMode; try dsimp only
  (repeat' split) <;> simp
@[simp] theorem settleMode_ldu (s : State) : (s.settleMode).ldu = s.ldu := by
  unfold State.settleMode; try dsimp only
  (repeat' split) <;> simp
@[simp] theorem settleMode_evu (s : State) : (s.settleMode).evu = s.evu := by
  unfold State.settleMode; try dsimp only
  (repeat' split) <;> simp
@[simp] theorem settleMode_cmu (s : State) : (s.settleMode).cmu = s.cmu := by
  unfold State.settleMode; try dsimp only
  (repeat' split) <;> simp
@[simp] theorem settleMode_mli (s : State) : (s.settleMode).mli = s.mli := by
  unfold State.settleMode; try dsimp only
  (repeat' split) <;> simp
@[simp] theorem complete_pending (i : Fin 4) (m : Irregularity → Irregularity) (s : State) : (s.complete i m).pending = s.pending := by
  unfold State.complete; try dsimp only
  (repeat' split) <;> simp
@[simp] theorem complete_resetHeld (i : Fin 4) (m : Irregularity → Irregularity) (s : State) : (s.complete i m).resetHeld = s.resetHeld := by
  unfold State.complete; try dsimp only
  (repeat' split) <;> simp
@[simp] theorem complete_pins (i : Fin 4) (m : Irregularity → Irregularity) (s : State) : (s.complete i m).pins = s.pins := by
  unfold State.complete; try dsimp only
  (repeat' split) <;> simp
@[simp] theorem complete_ali (i : Fin 4) (m : Irregularity → Irregularity) (s : State) : (s.complete i m).ali = s.ali := by
  unfold State.complete; try dsimp only
  (repeat' split) <;> simp
@[simp] theorem complete_etu (i : Fin 4) (m : Irregularity → Irregularity) (s : State) : (s.complete i m).etu = s.etu := by
  unfold State.complete; try dsimp only
  (repeat' split) <;> simp
@[simp] theorem complete_rfs (i : Fin 4) (m : Irregularity → Irregularity) (s : State) : (s.complete i m).rfs = s.rfs := by
  unfold State.complete; try dsimp only
  (repeat' split) <;> simp
@[simp] theorem complete_tru (i : Fin 4) (m : Irregularity → Irregularity) (s : State) : (s.complete i m).tru = s.tru := by
  unfold State.complete; try dsimp only
  (repeat' split) <;> simp
@[simp] theorem complete_rpb (i : Fin 4) (m : Irregularity → Irregularity) (s : State) : (s.complete i m).rpb = s.rpb := by
  unfold State.complete; try dsimp only
  (repeat' split) <;> simp
@[simp] theorem complete_tbs (i : Fin 4) (m : Irregularity → Irregularity) (s : State) : (s.complete i m).tbs = s.tbs := by
  unfold State.complete; try dsimp only
  (repeat' split) <;> simp
@[simp] theorem complete_ldu (i : Fin 4) (m : Irregularity → Irregularity) (s : State) : (s.complete i m).ldu = s.ldu := by
  unfold State.complete; try dsimp only
  (repeat' split) <;> simp
@[simp] theorem complete_cmu (i : Fin 4) (m : Irregularity → Irregularity) (s : State) : (s.complete i m).cmu = s.cmu := by
  unfold State.complete; try dsimp only
  (repeat' split) <;> simp
@[simp] theorem complete_mli (i : Fin 4) (m : Irregularity → Irregularity) (s : State) : (s.complete i m).mli = s.mli := by
  unfold State.complete; try dsimp only
  (repeat' split) <;> simp
@[simp] theorem enterClosing_pending (i : Fin 4) (m : Irregularity → Irregularity) (s : State) : (s.enterClosing i m).pending = s.pending := by
  unfold State.enterClosing; try dsimp only
  (repeat' split) <;> simp
@[simp] theorem enterClosing_resetHeld (i : Fin 4) (m : Irregularity → Irregularity) (s : State) : (s.enterClosing i m).resetHeld = s.resetHeld := by
  unfold State.enterClosing; try dsimp only
  (repeat' split) <;> simp
@[simp] theorem enterClosing_pins (i : Fin 4) (m : Irregularity → Irregularity) (s : State) : (s.enterClosing i m).pins = s.pins := by
  unfold State.enterClosing; try dsimp only
  (repeat' split) <;> simp
@[simp] theorem enterClosing_ali (i : Fin 4) (m : Irregularity → Irregularity) (s : State) : (s.enterClosing i m).ali = s.ali := by
  unfold State.enterClosing; try dsimp only
  (repeat' split) <;> simp
@[simp] theorem enterClosing_etu (i : Fin 4) (m : Irregularity → Irregularity) (s : State) : (s.enterClosing i m).etu = s.etu := by
  unfold State.enterClosing; try dsimp only
  (repeat' split) <;> simp
@[simp] theorem enterClosing_rfs (i : Fin 4) (m : Irregularity → Irregularity) (s : State) : (s.enterClosing i m).rfs = s.rfs := by
  unfold State.enterClosing; try dsimp only
  (repeat' split) <;> simp
@[simp] theorem enterClosing_tru (i : Fin 4) (m : Irregularity → Irregularity) (s : State) : (s.enterClosing i m).tru = s.tru := by
  unfold State.enterClosing; try dsimp only
  (repeat' split) <;> simp
@[simp] theorem enterClosing_rpb (i : Fin 4) (m : Irregularity → Irregularity) (s : State) : (s.enterClosing i m).rpb = s.rpb := by
  unfold State.enterClosing; try dsimp only
  (repeat' split) <;> simp
@[simp] theorem enterClosing_tbs (i : Fin 4) (m : Irregularity → Irregularity) (s : State) : (s.enterClosing i m).tbs = s.tbs := by
  unfold State.enterClosing; try dsimp only
  (repeat' split) <;> simp
@[simp] theorem enterClosing_ldu (i : Fin 4) (m : Irregularity → Irregularity) (s : State) : (s.enterClosing i m).ldu = s.ldu := by
  unfold State.enterClosing; try dsimp only
  (repeat' split) <;> simp
@[simp] theorem enterClosing_cmu (i : Fin 4) (m : Irregularity → Irregularity) (s : State) : (s.enterClosing i m).cmu = s.cmu := by
  unfold State.enterClosing; try dsimp only
  (repeat' split) <;> simp
@[simp] theorem enterClosing_mli (i : Fin 4) (m : Irregularity → Irregularity) (s : State) : (s.enterClosing i m).mli = s.mli := by
  unfold State.enterClosing; try dsimp only
  (repeat' split) <;> simp
@[simp] theorem boundary_pending (s : State) : (s.boundary).pending = s.pending := by
  unfold State.boundary; try dsimp only
  (repeat' split) <;> simp
@[simp] theorem boundary_resetHeld (s : State) : (s.boundary).resetHeld = s.resetHeld := by
  unfold State.boundary; try dsimp only
  (repeat' split) <;> simp
@[simp] theorem boundary_pins (s : State) : (s.boundary).pins = s.pins := by
  unfold State.boundary; try dsimp only
  (repeat' split) <;> simp
@[simp] theorem boundary_rpb (s : State) : (s.boundary).rpb = s.rpb := by
  unfold State.boundary; try dsimp only
  (repeat' split) <;> simp
@[simp] theorem boundary_ldu (s : State) : (s.boundary).ldu = s.ldu := by
  unfold State.boundary; try dsimp only
  (repeat' split) <;> simp
@[simp] theorem boundary_cmu (s : State) : (s.boundary).cmu = s.cmu := by
  unfold State.boundary; try dsimp only
  (repeat' split) <;> simp
@[simp] theorem boundary_mli (s : State) : (s.boundary).mli = s.mli := by
  unfold State.boundary; try dsimp only
  (repeat' split) <;> simp
@[simp] theorem tailEnd_pending (s : State) : (s.tailEnd).pending = s.pending := by
  unfold State.tailEnd; try dsimp only
  (repeat' split) <;> simp
@[simp] theorem tailEnd_resetHeld (s : State) : (s.tailEnd).resetHeld = s.resetHeld := by
  unfold State.tailEnd; try dsimp only
  (repeat' split) <;> simp
@[simp] theorem tailEnd_pins (s : State) : (s.tailEnd).pins = s.pins := by
  unfold State.tailEnd; try dsimp only
  (repeat' split) <;> simp
@[simp] theorem tailEnd_rpb (s : State) : (s.tailEnd).rpb = s.rpb := by
  unfold State.tailEnd; try dsimp only
  (repeat' split) <;> simp
@[simp] theorem tailEnd_ldu (s : State) : (s.tailEnd).ldu = s.ldu := by
  unfold State.tailEnd; try dsimp only
  (repeat' split) <;> simp
@[simp] theorem tailEnd_cmu (s : State) : (s.tailEnd).cmu = s.cmu := by
  unfold State.tailEnd; try dsimp only
  (repeat' split) <;> simp
@[simp] theorem tailEnd_mli (s : State) : (s.tailEnd).mli = s.mli := by
  unfold State.tailEnd; try dsimp only
  (repeat' split) <;> simp
@[simp] theorem completeReached_pending (n : Nat) (s : State) : (s.completeReached n).pending = s.pending := by
  induction n generalizing s with
  | zero => rfl
  | succ n ih => unfold State.completeReached; split <;> simp [ih]
@[simp] theorem completeReached_resetHeld (n : Nat) (s : State) : (s.completeReached n).resetHeld = s.resetHeld := by
  induction n generalizing s with
  | zero => rfl
  | succ n ih => unfold State.completeReached; split <;> simp [ih]
@[simp] theorem completeReached_pins (n : Nat) (s : State) : (s.completeReached n).pins = s.pins := by
  induction n generalizing s with
  | zero => rfl
  | succ n ih => unfold State.completeReached; split <;> simp [ih]
@[simp] theorem completeReached_rpb (n : Nat) (s : State) : (s.completeReached n).rpb = s.rpb := by
  induction n generalizing s with
  | zero => rfl
  | succ n ih => unfold State.completeReached; split <;> simp [ih]
@[simp] theorem completeReached_ldu (n : Nat) (s : State) : (s.completeReached n).ldu = s.ldu := by
  induction n generalizing s with
  | zero => rfl
  | succ n ih => unfold State.completeReached; split <;> simp [ih]
@[simp] theorem completeReached_cmu (n : Nat) (s : State) : (s.completeReached n).cmu = s.cmu := by
  induction n generalizing s with
  | zero => rfl
  | succ n ih => unfold State.completeReached; split <;> simp [ih]
@[simp] theorem completeReached_mli (n : Nat) (s : State) : (s.completeReached n).mli = s.mli := by
  induction n generalizing s with
  | zero => rfl
  | succ n ih => unfold State.completeReached; split <;> simp [ih]
@[simp] theorem lengthAdvance_pending (s : State) : (s.lengthAdvance).pending = s.pending := by
  simp [State.lengthAdvance]
@[simp] theorem lengthAdvance_resetHeld (s : State) : (s.lengthAdvance).resetHeld = s.resetHeld := by
  simp [State.lengthAdvance]
@[simp] theorem lengthAdvance_pins (s : State) : (s.lengthAdvance).pins = s.pins := by
  simp [State.lengthAdvance]
@[simp] theorem lengthAdvance_rpb (s : State) : (s.lengthAdvance).rpb = s.rpb := by
  simp [State.lengthAdvance]
@[simp] theorem lengthAdvance_ldu (s : State) : (s.lengthAdvance).ldu = s.ldu := by
  simp [State.lengthAdvance]
@[simp] theorem lengthAdvance_cmu (s : State) : (s.lengthAdvance).cmu = s.cmu := by
  simp [State.lengthAdvance]
@[simp] theorem lengthAdvance_mli (s : State) : (s.lengthAdvance).mli = s.mli := by
  simp [State.lengthAdvance]
@[simp] theorem headStep1_pending (s : State) : (s.headStep1).pending = s.pending := by
  unfold State.headStep1; try dsimp only
  (repeat' split) <;> simp
@[simp] theorem headStep1_resetHeld (s : State) : (s.headStep1).resetHeld = s.resetHeld := by
  unfold State.headStep1; try dsimp only
  (repeat' split) <;> simp
@[simp] theorem headStep1_pins (s : State) : (s.headStep1).pins = s.pins := by
  unfold State.headStep1; try dsimp only
  (repeat' split) <;> simp
@[simp] theorem headStep1_ali (s : State) : (s.headStep1).ali = s.ali := by
  unfold State.headStep1; try dsimp only
  (repeat' split) <;> simp
@[simp] theorem headStep1_etu (s : State) : (s.headStep1).etu = s.etu := by
  unfold State.headStep1; try dsimp only
  (repeat' split) <;> simp
@[simp] theorem headStep1_rfs (s : State) : (s.headStep1).rfs = s.rfs := by
  unfold State.headStep1; try dsimp only
  (repeat' split) <;> simp
@[simp] theorem headStep1_tru (s : State) : (s.headStep1).tru = s.tru := by
  unfold State.headStep1; try dsimp only
  (repeat' split) <;> simp
@[simp] theorem headStep1_rpb (s : State) : (s.headStep1).rpb = s.rpb := by
  unfold State.headStep1; try dsimp only
  (repeat' split) <;> simp
@[simp] theorem headStep1_tbs (s : State) : (s.headStep1).tbs = s.tbs := by
  unfold State.headStep1; try dsimp only
  (repeat' split) <;> simp
@[simp] theorem headStep1_ldu (s : State) : (s.headStep1).ldu = s.ldu := by
  unfold State.headStep1; try dsimp only
  (repeat' split) <;> simp
@[simp] theorem headStep1_cmu (s : State) : (s.headStep1).cmu = s.cmu := by
  unfold State.headStep1; try dsimp only
  (repeat' split) <;> simp
@[simp] theorem headStep1_mli (s : State) : (s.headStep1).mli = s.mli := by
  unfold State.headStep1; try dsimp only
  (repeat' split) <;> simp
@[simp] theorem cutTails_pending (n : Nat) (s : State) : (s.cutTails n).pending = s.pending := by
  induction n generalizing s with
  | zero => rfl
  | succ n ih => unfold State.cutTails; split <;> simp [ih]
@[simp] theorem cutTails_resetHeld (n : Nat) (s : State) : (s.cutTails n).resetHeld = s.resetHeld := by
  induction n generalizing s with
  | zero => rfl
  | succ n ih => unfold State.cutTails; split <;> simp [ih]
@[simp] theorem cutTails_pins (n : Nat) (s : State) : (s.cutTails n).pins = s.pins := by
  induction n generalizing s with
  | zero => rfl
  | succ n ih => unfold State.cutTails; split <;> simp [ih]
@[simp] theorem cutTails_ali (n : Nat) (s : State) : (s.cutTails n).ali = s.ali := by
  induction n generalizing s with
  | zero => rfl
  | succ n ih => unfold State.cutTails; split <;> simp [ih]
@[simp] theorem cutTails_etu (n : Nat) (s : State) : (s.cutTails n).etu = s.etu := by
  induction n generalizing s with
  | zero => rfl
  | succ n ih => unfold State.cutTails; split <;> simp [ih]
@[simp] theorem cutTails_rfs (n : Nat) (s : State) : (s.cutTails n).rfs = s.rfs := by
  induction n generalizing s with
  | zero => rfl
  | succ n ih => unfold State.cutTails; split <;> simp [ih]
@[simp] theorem cutTails_tru (n : Nat) (s : State) : (s.cutTails n).tru = s.tru := by
  induction n generalizing s with
  | zero => rfl
  | succ n ih => unfold State.cutTails; split <;> simp [ih]
@[simp] theorem cutTails_rpb (n : Nat) (s : State) : (s.cutTails n).rpb = s.rpb := by
  induction n generalizing s with
  | zero => rfl
  | succ n ih => unfold State.cutTails; split <;> simp [ih]
@[simp] theorem cutTails_tbs (n : Nat) (s : State) : (s.cutTails n).tbs = s.tbs := by
  induction n generalizing s with
  | zero => rfl
  | succ n ih => unfold State.cutTails; split <;> simp [ih]
@[simp] theorem cutTails_ldu (n : Nat) (s : State) : (s.cutTails n).ldu = s.ldu := by
  induction n generalizing s with
  | zero => rfl
  | succ n ih => unfold State.cutTails; split <;> simp [ih]
@[simp] theorem cutTails_cmu (n : Nat) (s : State) : (s.cutTails n).cmu = s.cmu := by
  induction n generalizing s with
  | zero => rfl
  | succ n ih => unfold State.cutTails; split <;> simp [ih]
@[simp] theorem cutTails_mli (n : Nat) (s : State) : (s.cutTails n).mli = s.mli := by
  induction n generalizing s with
  | zero => rfl
  | succ n ih => unfold State.cutTails; split <;> simp [ih]
@[simp] theorem headStep2_pending (s : State) : (s.headStep2).pending = s.pending := by
  unfold State.headStep2; try dsimp only
  (repeat' split) <;> simp
@[simp] theorem headStep2_resetHeld (s : State) : (s.headStep2).resetHeld = s.resetHeld := by
  unfold State.headStep2; try dsimp only
  (repeat' split) <;> simp
@[simp] theorem headStep2_pins (s : State) : (s.headStep2).pins = s.pins := by
  unfold State.headStep2; try dsimp only
  (repeat' split) <;> simp
@[simp] theorem headStep2_rpb (s : State) : (s.headStep2).rpb = s.rpb := by
  unfold State.headStep2; try dsimp only
  (repeat' split) <;> simp
@[simp] theorem headStep2_ldu (s : State) : (s.headStep2).ldu = s.ldu := by
  unfold State.headStep2; try dsimp only
  (repeat' split) <;> simp
@[simp] theorem headStep2_cmu (s : State) : (s.headStep2).cmu = s.cmu := by
  unfold State.headStep2; try dsimp only
  (repeat' split) <;> simp
@[simp] theorem headStep2_mli (s : State) : (s.headStep2).mli = s.mli := by
  unfold State.headStep2; try dsimp only
  (repeat' split) <;> simp
@[simp] theorem allocate_pending (s : State) : (s.allocate.2).pending = s.pending := by
  unfold State.allocate; try dsimp only
  (repeat' split) <;> simp
@[simp] theorem allocate_resetHeld (s : State) : (s.allocate.2).resetHeld = s.resetHeld := by
  unfold State.allocate; try dsimp only
  (repeat' split) <;> simp
@[simp] theorem allocate_pins (s : State) : (s.allocate.2).pins = s.pins := by
  unfold State.allocate; try dsimp only
  (repeat' split) <;> simp
@[simp] theorem allocate_ali (s : State) : (s.allocate.2).ali = s.ali := by
  unfold State.allocate; try dsimp only
  (repeat' split) <;> simp
@[simp] theorem allocate_etu (s : State) : (s.allocate.2).etu = s.etu := by
  unfold State.allocate; try dsimp only
  (repeat' split) <;> simp
@[simp] theorem allocate_rfs (s : State) : (s.allocate.2).rfs = s.rfs := by
  unfold State.allocate; try dsimp only
  (repeat' split) <;> simp
@[simp] theorem allocate_tru (s : State) : (s.allocate.2).tru = s.tru := by
  unfold State.allocate; try dsimp only
  (repeat' split) <;> simp
@[simp] theorem allocate_rpb (s : State) : (s.allocate.2).rpb = s.rpb := by
  unfold State.allocate; try dsimp only
  (repeat' split) <;> simp
@[simp] theorem allocate_tbs (s : State) : (s.allocate.2).tbs = s.tbs := by
  unfold State.allocate; try dsimp only
  (repeat' split) <;> simp
@[simp] theorem allocate_ldu (s : State) : (s.allocate.2).ldu = s.ldu := by
  unfold State.allocate; try dsimp only
  (repeat' split) <;> simp
@[simp] theorem allocate_cmu (s : State) : (s.allocate.2).cmu = s.cmu := by
  unfold State.allocate; try dsimp only
  (repeat' split) <;> simp
@[simp] theorem allocate_mli (s : State) : (s.allocate.2).mli = s.mli := by
  unfold State.allocate; try dsimp only
  (repeat' split) <;> simp
@[simp] theorem missShell_pending (s : State) : (s.missShell).pending = s.pending := by
  simp [State.missShell]
@[simp] theorem missShell_resetHeld (s : State) : (s.missShell).resetHeld = s.resetHeld := by
  simp [State.missShell]
@[simp] theorem missShell_pins (s : State) : (s.missShell).pins = s.pins := by
  simp [State.missShell]
@[simp] theorem missShell_ali (s : State) : (s.missShell).ali = s.ali := by
  simp [State.missShell]
@[simp] theorem missShell_etu (s : State) : (s.missShell).etu = s.etu := by
  simp [State.missShell]
@[simp] theorem missShell_rfs (s : State) : (s.missShell).rfs = s.rfs := by
  simp [State.missShell]
@[simp] theorem missShell_tru (s : State) : (s.missShell).tru = s.tru := by
  simp [State.missShell]
@[simp] theorem missShell_scs (s : State) : (s.missShell).scs = s.scs := by
  simp [State.missShell]
@[simp] theorem missShell_rpb (s : State) : (s.missShell).rpb = s.rpb := by
  simp [State.missShell]
@[simp] theorem missShell_tbs (s : State) : (s.missShell).tbs = s.tbs := by
  simp [State.missShell]
@[simp] theorem missShell_ldu (s : State) : (s.missShell).ldu = s.ldu := by
  simp [State.missShell]
@[simp] theorem missShell_cmu (s : State) : (s.missShell).cmu = s.cmu := by
  simp [State.missShell]
@[simp] theorem missShell_mli (s : State) : (s.missShell).mli = s.mli := by
  simp [State.missShell]
@[simp] theorem openShell_pending (i : Fin 4) (b : ProductBank) (s : State) : (s.openShell i b).pending = s.pending := by
  simp [State.openShell]
@[simp] theorem openShell_resetHeld (i : Fin 4) (b : ProductBank) (s : State) : (s.openShell i b).resetHeld = s.resetHeld := by
  simp [State.openShell]
@[simp] theorem openShell_pins (i : Fin 4) (b : ProductBank) (s : State) : (s.openShell i b).pins = s.pins := by
  simp [State.openShell]
@[simp] theorem openShell_ali (i : Fin 4) (b : ProductBank) (s : State) : (s.openShell i b).ali = s.ali := by
  simp [State.openShell]
@[simp] theorem openShell_etu (i : Fin 4) (b : ProductBank) (s : State) : (s.openShell i b).etu = s.etu := by
  simp [State.openShell]
@[simp] theorem openShell_rfs (i : Fin 4) (b : ProductBank) (s : State) : (s.openShell i b).rfs = s.rfs := by
  simp [State.openShell]
@[simp] theorem openShell_tru (i : Fin 4) (b : ProductBank) (s : State) : (s.openShell i b).tru = s.tru := by
  simp [State.openShell]
@[simp] theorem openShell_rpb (i : Fin 4) (b : ProductBank) (s : State) : (s.openShell i b).rpb = s.rpb := by
  simp [State.openShell]
@[simp] theorem openShell_tbs (i : Fin 4) (b : ProductBank) (s : State) : (s.openShell i b).tbs = s.tbs := by
  simp [State.openShell]
@[simp] theorem openShell_ldu (i : Fin 4) (b : ProductBank) (s : State) : (s.openShell i b).ldu = s.ldu := by
  simp [State.openShell]
@[simp] theorem openShell_cmu (i : Fin 4) (b : ProductBank) (s : State) : (s.openShell i b).cmu = s.cmu := by
  simp [State.openShell]
@[simp] theorem openShell_mli (i : Fin 4) (b : ProductBank) (s : State) : (s.openShell i b).mli = s.mli := by
  simp [State.openShell]
@[simp] theorem settleOpened_pending (s : State) : (s.settleOpened).pending = s.pending := by
  unfold State.settleOpened; try dsimp only
  (repeat' split) <;> simp
@[simp] theorem settleOpened_resetHeld (s : State) : (s.settleOpened).resetHeld = s.resetHeld := by
  unfold State.settleOpened; try dsimp only
  (repeat' split) <;> simp
@[simp] theorem settleOpened_pins (s : State) : (s.settleOpened).pins = s.pins := by
  unfold State.settleOpened; try dsimp only
  (repeat' split) <;> simp
@[simp] theorem settleOpened_etu (s : State) : (s.settleOpened).etu = s.etu := by
  unfold State.settleOpened; try dsimp only
  (repeat' split) <;> simp
@[simp] theorem settleOpened_tru (s : State) : (s.settleOpened).tru = s.tru := by
  unfold State.settleOpened; try dsimp only
  (repeat' split) <;> simp
@[simp] theorem settleOpened_rpb (s : State) : (s.settleOpened).rpb = s.rpb := by
  unfold State.settleOpened; try dsimp only
  (repeat' split) <;> simp
@[simp] theorem settleOpened_tbs (s : State) : (s.settleOpened).tbs = s.tbs := by
  unfold State.settleOpened; try dsimp only
  (repeat' split) <;> simp
@[simp] theorem settleOpened_ldu (s : State) : (s.settleOpened).ldu = s.ldu := by
  unfold State.settleOpened; try dsimp only
  (repeat' split) <;> simp
@[simp] theorem settleOpened_cmu (s : State) : (s.settleOpened).cmu = s.cmu := by
  unfold State.settleOpened; try dsimp only
  (repeat' split) <;> simp
@[simp] theorem settleOpened_mli (s : State) : (s.settleOpened).mli = s.mli := by
  unfold State.settleOpened; try dsimp only
  (repeat' split) <;> simp
@[simp] theorem settleMissed_pending (s : State) : (s.settleMissed).pending = s.pending := by
  unfold State.settleMissed; try dsimp only
  (repeat' split) <;> simp
@[simp] theorem settleMissed_resetHeld (s : State) : (s.settleMissed).resetHeld = s.resetHeld := by
  unfold State.settleMissed; try dsimp only
  (repeat' split) <;> simp
@[simp] theorem settleMissed_pins (s : State) : (s.settleMissed).pins = s.pins := by
  unfold State.settleMissed; try dsimp only
  (repeat' split) <;> simp
@[simp] theorem settleMissed_etu (s : State) : (s.settleMissed).etu = s.etu := by
  unfold State.settleMissed; try dsimp only
  (repeat' split) <;> simp
@[simp] theorem settleMissed_tru (s : State) : (s.settleMissed).tru = s.tru := by
  unfold State.settleMissed; try dsimp only
  (repeat' split) <;> simp
@[simp] theorem settleMissed_rpb (s : State) : (s.settleMissed).rpb = s.rpb := by
  unfold State.settleMissed; try dsimp only
  (repeat' split) <;> simp
@[simp] theorem settleMissed_tbs (s : State) : (s.settleMissed).tbs = s.tbs := by
  unfold State.settleMissed; try dsimp only
  (repeat' split) <;> simp
@[simp] theorem settleMissed_ldu (s : State) : (s.settleMissed).ldu = s.ldu := by
  unfold State.settleMissed; try dsimp only
  (repeat' split) <;> simp
@[simp] theorem settleMissed_evu (s : State) : (s.settleMissed).evu = s.evu := by
  unfold State.settleMissed; try dsimp only
  (repeat' split) <;> simp
@[simp] theorem settleMissed_cmu (s : State) : (s.settleMissed).cmu = s.cmu := by
  unfold State.settleMissed; try dsimp only
  (repeat' split) <;> simp
@[simp] theorem settleMissed_mli (s : State) : (s.settleMissed).mli = s.mli := by
  unfold State.settleMissed; try dsimp only
  (repeat' split) <;> simp
@[simp] theorem headSteps34_pending (s : State) : s.headSteps34.pending = s.pending := by
  rw [← allocate_pending s]
  unfold State.headSteps34
  split
  · next h => simp [h]
  · next h => split <;> simp [h]
@[simp] theorem headSteps34_resetHeld (s : State) : s.headSteps34.resetHeld = s.resetHeld := by
  rw [← allocate_resetHeld s]
  unfold State.headSteps34
  split
  · next h => simp [h]
  · next h => split <;> simp [h]
@[simp] theorem headSteps34_pins (s : State) : s.headSteps34.pins = s.pins := by
  rw [← allocate_pins s]
  unfold State.headSteps34
  split
  · next h => simp [h]
  · next h => split <;> simp [h]
@[simp] theorem headSteps34_rpb (s : State) : s.headSteps34.rpb = s.rpb := by
  rw [← allocate_rpb s]
  unfold State.headSteps34
  split
  · next h => simp [h]
  · next h => split <;> simp [h]
@[simp] theorem headSteps34_ldu (s : State) : s.headSteps34.ldu = s.ldu := by
  rw [← allocate_ldu s]
  unfold State.headSteps34
  split
  · next h => simp [h]
  · next h => split <;> simp [h]
@[simp] theorem headSteps34_cmu (s : State) : s.headSteps34.cmu = s.cmu := by
  rw [← allocate_cmu s]
  unfold State.headSteps34
  split
  · next h => simp [h]
  · next h => split <;> simp [h]
@[simp] theorem headSteps34_mli (s : State) : s.headSteps34.mli = s.mli := by
  rw [← allocate_mli s]
  unfold State.headSteps34
  split
  · next h => simp [h]
  · next h => split <;> simp [h]
@[simp] theorem headEnd_pending (s : State) : (s.headEnd).pending = s.pending := by
  unfold State.headEnd; try dsimp only
  (repeat' split) <;> simp
@[simp] theorem headEnd_resetHeld (s : State) : (s.headEnd).resetHeld = s.resetHeld := by
  unfold State.headEnd; try dsimp only
  (repeat' split) <;> simp
@[simp] theorem headEnd_pins (s : State) : (s.headEnd).pins = s.pins := by
  unfold State.headEnd; try dsimp only
  (repeat' split) <;> simp
@[simp] theorem headEnd_rpb (s : State) : (s.headEnd).rpb = s.rpb := by
  unfold State.headEnd; try dsimp only
  (repeat' split) <;> simp
@[simp] theorem headEnd_ldu (s : State) : (s.headEnd).ldu = s.ldu := by
  unfold State.headEnd; try dsimp only
  (repeat' split) <;> simp
@[simp] theorem headEnd_cmu (s : State) : (s.headEnd).cmu = s.cmu := by
  unfold State.headEnd; try dsimp only
  (repeat' split) <;> simp
@[simp] theorem headEnd_mli (s : State) : (s.headEnd).mli = s.mli := by
  unfold State.headEnd; try dsimp only
  (repeat' split) <;> simp
@[simp] theorem offerSample_pending (w : WallSample) (s : State) : (s.offerSample w).pending = s.pending := by
  unfold State.offerSample; try dsimp only
  (repeat' split) <;> simp
@[simp] theorem offerSample_resetHeld (w : WallSample) (s : State) : (s.offerSample w).resetHeld = s.resetHeld := by
  unfold State.offerSample; try dsimp only
  (repeat' split) <;> simp
@[simp] theorem offerSample_pins (w : WallSample) (s : State) : (s.offerSample w).pins = s.pins := by
  unfold State.offerSample; try dsimp only
  (repeat' split) <;> simp
@[simp] theorem offerSample_ali (w : WallSample) (s : State) : (s.offerSample w).ali = s.ali := by
  unfold State.offerSample; try dsimp only
  (repeat' split) <;> simp
@[simp] theorem offerSample_etu (w : WallSample) (s : State) : (s.offerSample w).etu = s.etu := by
  unfold State.offerSample; try dsimp only
  (repeat' split) <;> simp
@[simp] theorem offerSample_rfs (w : WallSample) (s : State) : (s.offerSample w).rfs = s.rfs := by
  unfold State.offerSample; try dsimp only
  (repeat' split) <;> simp
@[simp] theorem offerSample_tru (w : WallSample) (s : State) : (s.offerSample w).tru = s.tru := by
  unfold State.offerSample; try dsimp only
  (repeat' split) <;> simp
@[simp] theorem offerSample_scs (w : WallSample) (s : State) : (s.offerSample w).scs = s.scs := by
  unfold State.offerSample; try dsimp only
  (repeat' split) <;> simp
@[simp] theorem offerSample_rpb (w : WallSample) (s : State) : (s.offerSample w).rpb = s.rpb := by
  unfold State.offerSample; try dsimp only
  (repeat' split) <;> simp
@[simp] theorem offerSample_tbs (w : WallSample) (s : State) : (s.offerSample w).tbs = s.tbs := by
  unfold State.offerSample; try dsimp only
  (repeat' split) <;> simp
@[simp] theorem offerSample_cmu (w : WallSample) (s : State) : (s.offerSample w).cmu = s.cmu := by
  unfold State.offerSample; try dsimp only
  (repeat' split) <;> simp
@[simp] theorem offerSample_mli (w : WallSample) (s : State) : (s.offerSample w).mli = s.mli := by
  unfold State.offerSample; try dsimp only
  (repeat' split) <;> simp
@[simp] theorem offerCapture_pending (c : Fin 8) (r : ShotRecord) (o : ShotOutcome) (t : EchoTimes) (s : State) : (s.offerCapture c r o t).pending = s.pending := by
  unfold State.offerCapture; try dsimp only
  (repeat' split) <;> simp
@[simp] theorem offerCapture_resetHeld (c : Fin 8) (r : ShotRecord) (o : ShotOutcome) (t : EchoTimes) (s : State) : (s.offerCapture c r o t).resetHeld = s.resetHeld := by
  unfold State.offerCapture; try dsimp only
  (repeat' split) <;> simp
@[simp] theorem offerCapture_pins (c : Fin 8) (r : ShotRecord) (o : ShotOutcome) (t : EchoTimes) (s : State) : (s.offerCapture c r o t).pins = s.pins := by
  unfold State.offerCapture; try dsimp only
  (repeat' split) <;> simp
@[simp] theorem offerCapture_ali (c : Fin 8) (r : ShotRecord) (o : ShotOutcome) (t : EchoTimes) (s : State) : (s.offerCapture c r o t).ali = s.ali := by
  unfold State.offerCapture; try dsimp only
  (repeat' split) <;> simp
@[simp] theorem offerCapture_etu (c : Fin 8) (r : ShotRecord) (o : ShotOutcome) (t : EchoTimes) (s : State) : (s.offerCapture c r o t).etu = s.etu := by
  unfold State.offerCapture; try dsimp only
  (repeat' split) <;> simp
@[simp] theorem offerCapture_rfs (c : Fin 8) (r : ShotRecord) (o : ShotOutcome) (t : EchoTimes) (s : State) : (s.offerCapture c r o t).rfs = s.rfs := by
  unfold State.offerCapture; try dsimp only
  (repeat' split) <;> simp
@[simp] theorem offerCapture_tru (c : Fin 8) (r : ShotRecord) (o : ShotOutcome) (t : EchoTimes) (s : State) : (s.offerCapture c r o t).tru = s.tru := by
  unfold State.offerCapture; try dsimp only
  (repeat' split) <;> simp
@[simp] theorem offerCapture_scs (c : Fin 8) (r : ShotRecord) (o : ShotOutcome) (t : EchoTimes) (s : State) : (s.offerCapture c r o t).scs = s.scs := by
  unfold State.offerCapture; try dsimp only
  (repeat' split) <;> simp
@[simp] theorem offerCapture_rpb (c : Fin 8) (r : ShotRecord) (o : ShotOutcome) (t : EchoTimes) (s : State) : (s.offerCapture c r o t).rpb = s.rpb := by
  unfold State.offerCapture; try dsimp only
  (repeat' split) <;> simp
@[simp] theorem offerCapture_tbs (c : Fin 8) (r : ShotRecord) (o : ShotOutcome) (t : EchoTimes) (s : State) : (s.offerCapture c r o t).tbs = s.tbs := by
  unfold State.offerCapture; try dsimp only
  (repeat' split) <;> simp
@[simp] theorem offerCapture_cmu (c : Fin 8) (r : ShotRecord) (o : ShotOutcome) (t : EchoTimes) (s : State) : (s.offerCapture c r o t).cmu = s.cmu := by
  unfold State.offerCapture; try dsimp only
  (repeat' split) <;> simp
@[simp] theorem offerCapture_mli (c : Fin 8) (r : ShotRecord) (o : ShotOutcome) (t : EchoTimes) (s : State) : (s.offerCapture c r o t).mli = s.mli := by
  unfold State.offerCapture; try dsimp only
  (repeat' split) <;> simp
@[simp] theorem offerForward_pending (c : Fin 8) (r : ShotRecord) (o : ShotOutcome) (s : State) : (s.offerForward c r o).pending = s.pending := by
  unfold State.offerForward; try dsimp only
  (repeat' split) <;> simp
@[simp] theorem offerForward_resetHeld (c : Fin 8) (r : ShotRecord) (o : ShotOutcome) (s : State) : (s.offerForward c r o).resetHeld = s.resetHeld := by
  unfold State.offerForward; try dsimp only
  (repeat' split) <;> simp
@[simp] theorem offerForward_pins (c : Fin 8) (r : ShotRecord) (o : ShotOutcome) (s : State) : (s.offerForward c r o).pins = s.pins := by
  unfold State.offerForward; try dsimp only
  (repeat' split) <;> simp
@[simp] theorem offerForward_ali (c : Fin 8) (r : ShotRecord) (o : ShotOutcome) (s : State) : (s.offerForward c r o).ali = s.ali := by
  unfold State.offerForward; try dsimp only
  (repeat' split) <;> simp
@[simp] theorem offerForward_etu (c : Fin 8) (r : ShotRecord) (o : ShotOutcome) (s : State) : (s.offerForward c r o).etu = s.etu := by
  unfold State.offerForward; try dsimp only
  (repeat' split) <;> simp
@[simp] theorem offerForward_rfs (c : Fin 8) (r : ShotRecord) (o : ShotOutcome) (s : State) : (s.offerForward c r o).rfs = s.rfs := by
  unfold State.offerForward; try dsimp only
  (repeat' split) <;> simp
@[simp] theorem offerForward_tru (c : Fin 8) (r : ShotRecord) (o : ShotOutcome) (s : State) : (s.offerForward c r o).tru = s.tru := by
  unfold State.offerForward; try dsimp only
  (repeat' split) <;> simp
@[simp] theorem offerForward_scs (c : Fin 8) (r : ShotRecord) (o : ShotOutcome) (s : State) : (s.offerForward c r o).scs = s.scs := by
  unfold State.offerForward; try dsimp only
  (repeat' split) <;> simp
@[simp] theorem offerForward_rpb (c : Fin 8) (r : ShotRecord) (o : ShotOutcome) (s : State) : (s.offerForward c r o).rpb = s.rpb := by
  unfold State.offerForward; try dsimp only
  (repeat' split) <;> simp
@[simp] theorem offerForward_tbs (c : Fin 8) (r : ShotRecord) (o : ShotOutcome) (s : State) : (s.offerForward c r o).tbs = s.tbs := by
  unfold State.offerForward; try dsimp only
  (repeat' split) <;> simp
@[simp] theorem offerForward_ldu (c : Fin 8) (r : ShotRecord) (o : ShotOutcome) (s : State) : (s.offerForward c r o).ldu = s.ldu := by
  unfold State.offerForward; try dsimp only
  (repeat' split) <;> simp
@[simp] theorem offerForward_evu (c : Fin 8) (r : ShotRecord) (o : ShotOutcome) (s : State) : (s.offerForward c r o).evu = s.evu := by
  unfold State.offerForward; try dsimp only
  (repeat' split) <;> simp
@[simp] theorem offerForward_cmu (c : Fin 8) (r : ShotRecord) (o : ShotOutcome) (s : State) : (s.offerForward c r o).cmu = s.cmu := by
  unfold State.offerForward; try dsimp only
  (repeat' split) <;> simp
@[simp] theorem finish_pending (c : Fin 8) (r : ShotRecord) (o : ShotOutcome) (t : EchoTimes) (s : State) : (s.finish c r o t).pending = s.pending := by
  simp [State.finish]
@[simp] theorem finish_resetHeld (c : Fin 8) (r : ShotRecord) (o : ShotOutcome) (t : EchoTimes) (s : State) : (s.finish c r o t).resetHeld = s.resetHeld := by
  simp [State.finish]
@[simp] theorem finish_pins (c : Fin 8) (r : ShotRecord) (o : ShotOutcome) (t : EchoTimes) (s : State) : (s.finish c r o t).pins = s.pins := by
  simp [State.finish]
@[simp] theorem finish_ali (c : Fin 8) (r : ShotRecord) (o : ShotOutcome) (t : EchoTimes) (s : State) : (s.finish c r o t).ali = s.ali := by
  simp [State.finish]
@[simp] theorem finish_rfs (c : Fin 8) (r : ShotRecord) (o : ShotOutcome) (t : EchoTimes) (s : State) : (s.finish c r o t).rfs = s.rfs := by
  simp [State.finish]
@[simp] theorem finish_tru (c : Fin 8) (r : ShotRecord) (o : ShotOutcome) (t : EchoTimes) (s : State) : (s.finish c r o t).tru = s.tru := by
  simp [State.finish]
@[simp] theorem finish_scs (c : Fin 8) (r : ShotRecord) (o : ShotOutcome) (t : EchoTimes) (s : State) : (s.finish c r o t).scs = s.scs := by
  simp [State.finish]
@[simp] theorem finish_rpb (c : Fin 8) (r : ShotRecord) (o : ShotOutcome) (t : EchoTimes) (s : State) : (s.finish c r o t).rpb = s.rpb := by
  simp [State.finish]
@[simp] theorem finish_tbs (c : Fin 8) (r : ShotRecord) (o : ShotOutcome) (t : EchoTimes) (s : State) : (s.finish c r o t).tbs = s.tbs := by
  simp [State.finish]
@[simp] theorem finish_cmu (c : Fin 8) (r : ShotRecord) (o : ShotOutcome) (t : EchoTimes) (s : State) : (s.finish c r o t).cmu = s.cmu := by
  simp [State.finish]
@[simp] theorem discardFrame_pending (link : Link) (step : FrameStep) (s : State) : (s.discardFrame link step).pending = s.pending := by
  simp [State.discardFrame]
@[simp] theorem discardFrame_resetHeld (link : Link) (step : FrameStep) (s : State) : (s.discardFrame link step).resetHeld = s.resetHeld := by
  simp [State.discardFrame]
@[simp] theorem discardFrame_pins (link : Link) (step : FrameStep) (s : State) : (s.discardFrame link step).pins = s.pins := by
  simp [State.discardFrame]
@[simp] theorem discardFrame_ali (link : Link) (step : FrameStep) (s : State) : (s.discardFrame link step).ali = s.ali := by
  simp [State.discardFrame]
@[simp] theorem discardFrame_etu (link : Link) (step : FrameStep) (s : State) : (s.discardFrame link step).etu = s.etu := by
  simp [State.discardFrame]
@[simp] theorem discardFrame_rfs (link : Link) (step : FrameStep) (s : State) : (s.discardFrame link step).rfs = s.rfs := by
  simp [State.discardFrame]
@[simp] theorem discardFrame_tru (link : Link) (step : FrameStep) (s : State) : (s.discardFrame link step).tru = s.tru := by
  simp [State.discardFrame]
@[simp] theorem discardFrame_scs (link : Link) (step : FrameStep) (s : State) : (s.discardFrame link step).scs = s.scs := by
  simp [State.discardFrame]
@[simp] theorem discardFrame_rpb (link : Link) (step : FrameStep) (s : State) : (s.discardFrame link step).rpb = s.rpb := by
  simp [State.discardFrame]
@[simp] theorem discardFrame_tbs (link : Link) (step : FrameStep) (s : State) : (s.discardFrame link step).tbs = s.tbs := by
  simp [State.discardFrame]
@[simp] theorem discardFrame_ldu (link : Link) (step : FrameStep) (s : State) : (s.discardFrame link step).ldu = s.ldu := by
  simp [State.discardFrame]
@[simp] theorem discardFrame_cmu (link : Link) (step : FrameStep) (s : State) : (s.discardFrame link step).cmu = s.cmu := by
  simp [State.discardFrame]
@[simp] theorem discardFrame_mli (link : Link) (step : FrameStep) (s : State) : (s.discardFrame link step).mli = s.mli := by
  simp [State.discardFrame]

end Sys2Proof.Laws
end

