-- ==== Sys2Proof/Laws/Flags.lean ====
section
/-! SUPPORT. What an occurrence does to each flag (R166). -/

namespace Sys2Proof.Laws

open Sys2Proof.Machine

/-- A flag's number names it. -/
theorem flag_index_inj (f g : Flag) : f.index.val = g.index.val ↔ f = g := by
  constructor
  · intro h; cases f <;> cases g <;> first | rfl | (simp [Flag.index] at h)
  · rintro rfl; rfl

theorem flag_set (f g : Flag) (v : FlagState) (s : State) :
    ({ s with evu.flags := s.evu.flags.set f.index v } : State).flag g =
      if g = f then v else s.flag g := by
  simp only [State.flag, Fin.getElem_fin, Vector.getElem_set, flag_index_inj, @eq_comm _ f g]

@[simp] theorem offerNotice_flag (n : Notice) (g : Flag) (s : State) :
    (s.offerNotice n).flag g = s.flag g := by
  unfold State.offerNotice
  repeat' split
  all_goals rfl

/-- An occurrence changes its own flag and no other. -/
theorem raise_flag (f g : Flag) (q : Option Nat) (s : State) :
    (s.raise f q).flag g = if g = f then (s.flag g).occur q else s.flag g := by
  have e : (s.raise f q).flag g =
      ({ s with evu.flags := s.evu.flags.set f.index ((s.flag f).occur q) } : State).flag g := by
    unfold State.raise; dsimp only
    split
    · rw [offerNotice_flag]
    · rfl
  rw [e, flag_set]
  by_cases h : g = f
  · subst h; simp
  · simp [h]

/-- A flag that no occurrence of an operation names reads the same in the same flags. -/
theorem flag_congr {s t : State} (h : t.evu.flags = s.evu.flags) (f : Flag) : t.flag f = s.flag f := by
  simp only [State.flag, h]

/-- No number, no occurrence. -/
@[simp] theorem occurEach_nil (f : FlagState) : f.occurEach [] = f := rfl

/-- The first number occurs first. -/
@[simp] theorem occurEach_cons (f : FlagState) (q : Nat) (l : List Nat) :
    f.occurEach (q :: l) = (f.occur (.some q)).occurEach l := rfl

/-- Occurrences one list after another. -/
theorem occurEach_append (f : FlagState) (l m : List Nat) :
    f.occurEach (l ++ m) = (f.occurEach l).occurEach m := List.foldl_append

end Sys2Proof.Laws
end

