-- ==== Sys2Proof/Laws/Examination.lean ====
section
/-! SUPPORT. What the operations over one channel do to each channel, and everything the examination of
R30 can do. -/

namespace Sys2Proof.Laws

open Sys2Proof.Machine

/-! ### One channel's state -/

theorem rfsChannel_get (c d : Fin 8) (f : RfsChannel → RfsChannel) (s : State) :
    (s.rfsChannel c f).rfs.channels[d] =
      if c = d then f s.rfs.channels[c] else s.rfs.channels[d] := by
  simp only [State.rfsChannel, Fin.getElem_fin, Vector.getElem_set, Fin.ext_iff]

theorem etuChannel_get (c d : Fin 8) (f : EtuChannel → EtuChannel) (s : State) :
    (s.etuChannel c f).etu[d] = if c = d then f s.etu[c] else s.etu[d] := by
  simp only [State.etuChannel, Fin.getElem_fin, Vector.getElem_set, Fin.ext_iff]

theorem tallyChannel_get (c d : Fin 8) (f : ChannelCounters → ChannelCounters) (s : State) :
    (s.tallyChannel c f).counters.channels[d] =
      if c = d then f s.counters.channels[c] else s.counters.channels[d] := by
  simp only [State.tallyChannel, State.tally, Fin.getElem_fin, Vector.getElem_set, Fin.ext_iff]

theorem mem_allChannels (d : Fin 8) : d ∈ allChannels := by revert d; decide

/-- A family of changes, each of its own channel alone and by what the context `k` says, changes every
channel so. `k` is what the changes read and leave. -/
theorem forChannels_get {α β : Type} (k : State → α) (g : State → Fin 8 → β) (v : α → Fin 8 → β → β)
    (f : Fin 8 → State → State) (hk : ∀ c s, k (f c s) = k s)
    (hg : ∀ c d s, g (f c s) d = if c = d then v (k s) c (g s c) else g s d) (s : State) (d : Fin 8) :
    g (forChannels f s) d = v (k s) d (g s d) := by
  have all : ∀ (l : List (Fin 8)), l.Nodup → ∀ s, k (l.foldl (fun s c => f c s) s) = k s ∧
      g (l.foldl (fun s c => f c s) s) d = if d ∈ l then v (k s) d (g s d) else g s d := by
    intro l
    induction l with
    | nil => intro _ s; simp
    | cons c l ih =>
      intro hl s
      obtain ⟨hc, hl⟩ := List.nodup_cons.mp hl
      obtain ⟨h1, h2⟩ := ih hl (f c s)
      refine ⟨by rw [List.foldl_cons, h1, hk], ?_⟩
      rw [List.foldl_cons, h2, hk, hg]
      by_cases hd : c = d
      · subst hd; simp [hc]
      · have hd' : d ≠ c := fun h => hd h.symm
        simp [hd, hd']
  have := (all allChannels (by decide) s).2
  rwa [if_pos (mem_allChannels d)] at this

/-- A channel's backlog takes a value; its flag is REFERENCE_OVERDUE's concern (R25). -/
theorem setBacklog_get (c d : Fin 8) (n : Nat) (s : State) :
    (s.setBacklog c n).rfs.channels[d] =
      if c = d then { s.rfs.channels[c] with backlog := n } else s.rfs.channels[d] := by
  have e : (s.setBacklog c n).rfs = (s.rfsChannel c fun r => { r with backlog := n }).rfs := by
    unfold State.setBacklog; dsimp only
    split
    · rw [raise_rfs]
    · rfl
  rw [e, rfsChannel_get]

theorem setBacklog_flag (c : Fin 8) (n : Nat) (f : Flag) (s : State) :
    (s.setBacklog c n).flag f =
      if f = .referenceOverdue ∧ s.rfs.channels[c].backlog < 12 ∧ 12 ≤ n then
        (s.flag f).occur .none else s.flag f := by
  unfold State.setBacklog overdueFrom; dsimp only [State.ref]
  by_cases h : s.rfs.channels[c].backlog < 12 ∧ 12 ≤ n
  · rw [if_pos h, raise_flag]
    by_cases hf : f = .referenceOverdue
    · subst hf; rw [if_pos rfl, if_pos ⟨rfl, h⟩]; rfl
    · rw [if_neg hf, if_neg (fun k => hf k.1)]; rfl
  · rw [if_neg h, if_neg (fun k => h k.2)]; rfl

theorem reloadInterval_get (c d : Fin 8) (s : State) :
    (s.reloadInterval c).rfs.channels[d] =
      if c = d then
        { s.rfs.channels[c] with
          interval := (enabledEntry s.tbs.active.channels[c]).map (·.refInterval) }
      else s.rfs.channels[d] := rfsChannel_get ..

theorem dropRequest_get (c d : Fin 8) (s : State) :
    (s.dropRequest c).rfs.channels[d] =
      if c = d then { s.rfs.channels[c] with request := .none } else s.rfs.channels[d] :=
  rfsChannel_get ..

/-! ### The examination (R29, R30) -/

theorem enabled_congr {a b : State} (h : a.tbs.active.channels = b.tbs.active.channels) (c : Fin 8) :
    a.enabled c = b.enabled c := by simp only [State.enabled, State.entry, h]

/-- One channel examined. -/
def examineOne (c : Fin 8) (s : State) : State := if s.mayIssue c then s.issue c else s

theorem examine_eq (s : State) : s.examine = forChannels examineOne s := rfl

theorem issue_channels (c : Fin 8) (s : State) : (s.issue c).rfs.channels =
    (s.rfsChannel c fun r =>
      { r with request := .some ⟨s.rfs.tagCounter, .queued⟩ }).rfs.channels := rfl

theorem issue_counters (c : Fin 8) (s : State) : (s.issue c).counters =
    (s.tallyChannel c fun k => { k with requestsIssued := inc32 k.requestsIssued }).counters := rfl

/-- A channel examined changes at most its own request. -/
theorem examineOne_get (c d : Fin 8) (s : State) :
    (examineOne c s).rfs.channels[d] =
      if c = d ∧ s.mayIssue c = true then
        { s.rfs.channels[d] with request := .some ⟨s.rfs.tagCounter, .queued⟩ }
      else s.rfs.channels[d] := by
  unfold examineOne
  by_cases h : s.mayIssue c = true
  · rw [if_pos h]
    rw [issue_channels, rfsChannel_get]
    by_cases hd : c = d
    · subst hd; simp [h]
    · simp [hd]
  · simp [h]

/-- A channel that may be issued a request has none. -/
theorem mayIssue_request {s : State} {c : Fin 8} (h : s.mayIssue c = true) :
    s.enabled c = true ∧ 0 < s.rfs.channels[c].backlog ∧ s.rfs.channels[c].request = .none ∧
      s.ali.inLock = true ∧ s.ali.outQueue.length < 8 := by
  simp only [State.mayIssue, Bool.and_eq_true, decide_eq_true_eq, Option.isNone_iff_eq_none] at h
  exact ⟨h.1.1.1.1.1, h.1.1.1.1.2, h.1.1.1.2, h.1.1.2, h.1.2⟩

/-- Without the A-link in lock no request is issued. -/
theorem mayIssue_outOfLock {s : State} (h : s.ali.inLock = false) (c : Fin 8) :
    s.mayIssue c = false := by simp [State.mayIssue, h]

/-- What an examination leaves and what it may add, said once: backlogs, reference states and counters
stand; requests appear where there were none; their frames join the A-out queue. -/
structure Examined (s t : State) : Prop where
  issues : s.OnlyIssues t
  queue : ∃ l : List AOut, t.ali = { s.ali with outQueue := s.ali.outQueue ++ l } ∧
    ∀ a ∈ l, a.isRequest = true
  drainReports : t.rfs.drainReports = s.rfs.drainReports
  counters : t.counters = { s.counters with channels := t.counters.channels }
  issued : ∀ c : Fin 8, t.counters.channels[c] =
    { s.counters.channels[c] with requestsIssued := t.counters.channels[c].requestsIssued }
  rest : t = { s with ali := t.ali, rfs := t.rfs, counters := t.counters }

theorem Examined.refl (s : State) : Examined s s :=
  ⟨fun _ => ⟨rfl, rfl, rfl, .inl rfl⟩, ⟨[], by simp, by simp⟩, rfl, rfl, fun _ => rfl, rfl⟩

theorem Examined.trans {s t u : State} (a : Examined s t) (b : Examined t u) : Examined s u := by
  obtain ⟨l, hl, hr⟩ := a.queue
  obtain ⟨m, hm, hq⟩ := b.queue
  refine ⟨fun c => ?_, ⟨l ++ m, ?_, ?_⟩, ?_, ?_, fun c => ?_, ?_⟩
  · obtain ⟨a1, a2, a3, a4⟩ := a.issues c
    obtain ⟨b1, b2, b3, b4⟩ := b.issues c
    refine ⟨b1.trans a1, b2.trans a2, b3.trans a3, ?_⟩
    rcases b4 with b4 | ⟨b4, b5⟩
    · rw [b4]; exact a4
    · rcases a4 with a4 | ⟨a4, a5⟩
      · exact .inr ⟨a4 ▸ b4, b5⟩
      · exact .inr ⟨a4, b5⟩
  · rw [hm, hl, List.append_assoc]
  · intro x hx
    rcases List.mem_append.mp hx with h | h
    · exact hr x h
    · exact hq x h
  · exact b.drainReports.trans a.drainReports
  · rw [b.counters, a.counters]
  · rw [b.issued c, a.issued c]
  · have hb := b.rest
    rw [a.rest] at hb
    exact hb

/-- The blocks an examination leaves. -/
theorem Examined.blocks {s t : State} (h : Examined s t) :
    t.evu = s.evu ∧ t.etu = s.etu ∧ t.tru = s.tru ∧ t.scs = s.scs ∧ t.tbs = s.tbs ∧
      s.SameOutside t := by
  have e := h.rest
  exact ⟨by rw [e], by rw [e], by rw [e], by rw [e], by rw [e], by rw [e], by rw [e], by rw [e],
    by rw [e], by rw [e], by rw [e], by rw [e]⟩

theorem examineOne_examined (c : Fin 8) (s : State) : Examined s (examineOne c s) := by
  by_cases h : s.mayIssue c = true
  · have e : examineOne c s = s.issue c := by simp [examineOne, h]
    refine ⟨fun d => ?_, ?_, ?_, ?_, fun d => ?_, ?_⟩
    · rw [examineOne_get]
      by_cases hd : c = d ∧ s.mayIssue c = true
      · rw [if_pos hd]
        have := (mayIssue_request h).2.2.1
        exact ⟨rfl, rfl, rfl, .inr ⟨hd.1 ▸ this, _, rfl⟩⟩
      · rw [if_neg hd]; exact ⟨rfl, rfl, rfl, .inl rfl⟩
    · rw [e]; exact ⟨[AOut.request c s.rfs.tagCounter], rfl, by simp [AOut.isRequest]⟩
    · rw [e]; rfl
    · rw [e]; rfl
    · rw [e, issue_counters, tallyChannel_get]
      by_cases hd : c = d
      · subst hd; simp
      · simp [hd]
    · rw [e]; rfl
  · have e : examineOne c s = s := by simp [examineOne, h]
    rw [e]; exact .refl s

theorem examine_examined (s : State) : Examined s s.examine := by
  have all : ∀ (l : List (Fin 8)) s, Examined s (l.foldl (fun s c => examineOne c s) s) := by
    intro l
    induction l with
    | nil => exact Examined.refl
    | cons c l ih => exact fun s => (examineOne_examined c s).trans (ih _)
  exact all allChannels s

/-- A channel that may not be issued a request may not be issued one after another channel was. -/
theorem mayIssue_mono {s t : State} (h : Examined s t) {c : Fin 8} (hc : s.mayIssue c = false) :
    t.mayIssue c = false := by
  by_contra ht
  rw [Bool.not_eq_false] at ht
  rw [← Bool.not_eq_true] at hc
  apply hc
  obtain ⟨l, hl, -⟩ := h.queue
  have ha : t.ali.inLock = s.ali.inLock := by rw [hl]
  have hq : s.ali.outQueue.length ≤ t.ali.outQueue.length := by rw [hl]; simp
  have htbs : t.tbs = s.tbs := by rw [h.rest]
  have hscs : t.scs = s.scs := by rw [h.rest]
  have hk : t.keepReference = s.keepReference := by simp only [State.keepReference, State.line, htbs]
  obtain ⟨b, -, -, r⟩ := h.issues c
  have others : s.otherOutstanding c = true → t.otherOutstanding c = true := by
    simp only [State.otherOutstanding, List.any_eq_true, Bool.and_eq_true, State.ref]
    rintro ⟨d, hd, hne, hr⟩
    refine ⟨d, hd, hne, ?_⟩
    obtain ⟨-, -, -, r⟩ := h.issues d
    rcases r with r | ⟨r, -⟩
    · rw [r]; exact hr
    · rw [r] at hr; simp at hr
  have b : (t.ref c).backlog = (s.ref c).backlog := b
  simp only [State.mayIssue, Bool.and_eq_true, decide_eq_true_eq, Option.isNone_iff_eq_none] at ht ⊢
  obtain ⟨⟨⟨⟨⟨h1, h2⟩, h3⟩, h4⟩, h5⟩, h6⟩ := ht
  refine ⟨⟨⟨⟨⟨?_, ?_⟩, ?_⟩, ?_⟩, ?_⟩, ?_⟩
  · rw [enabled_congr (b := t) (by rw [htbs])]; exact h1
  · rw [← b]; exact h2
  · rcases r with r | ⟨r, -⟩
    · exact r.symm.trans h3
    · exact r
  · rw [← ha]; exact h4
  · omega
  · rw [hscs, hk, b] at h6
    revert h6 others
    unfold levelAllowed
    cases s.scs.mode
    all_goals try exact fun _ h => h
    cases s.otherOutstanding c <;> cases t.otherOutstanding c
    all_goals simp
    all_goals omega

/-- After an examination no channel meets R29. -/
theorem examine_noneOwed (s : State) : s.examine.NoneOwed := by
  have all : ∀ (l : List (Fin 8)) (s : State) (c : Fin 8), c ∈ l ∨ s.mayIssue c = false →
      (l.foldl (fun s c => examineOne c s) s).mayIssue c = false := by
    intro l
    induction l with
    | nil => intro s c h; simpa using h
    | cons d l ih =>
      intro s c h
      rw [List.foldl_cons]
      apply ih
      by_cases hc : c ∈ l
      · exact .inl hc
      · right
        by_cases hd : d = c
        · subst hd
          by_cases hm : s.mayIssue d = true
          · have : ((examineOne d s).rfs.channels[d]).request ≠ .none := by
              rw [examineOne_get]; simp [hm]
            by_contra hn
            exact this (mayIssue_request (by simpa only [Bool.not_eq_false] using hn)).2.2.1
          · simp [examineOne, hm]
        · refine mayIssue_mono (examineOne_examined d s) ?_
          rcases h with h | h
          · rcases List.mem_cons.mp h with h | h
            · exact absurd h.symm hd
            · exact absurd h hc
          · exact h
  exact fun c => all allChannels s c (.inl (by revert c; decide))

/-- What R29 reads. -/
theorem noneOwed_congr {s t : State} (hr : t.rfs.channels = s.rfs.channels) (ha : t.ali = s.ali)
    (hm : t.scs.mode = s.scs.mode) (ht : t.tbs.active = s.tbs.active) (h : s.NoneOwed) :
    t.NoneOwed := by
  intro c
  have ref : ∀ d, t.ref d = s.ref d := fun d => by simp only [State.ref, hr]
  have e := h c
  simp only [State.mayIssue, State.enabled, State.entry, State.otherOutstanding,
    State.keepReference, State.line, ref, ha, hm, ht] at e ⊢
  exact e

/-- With no request owed an examination changes nothing. -/
theorem examine_idle {s : State} (h : s.NoneOwed) : s.examine = s := by
  have all : ∀ l : List (Fin 8), l.foldl (fun s c => examineOne c s) s = s := by
    intro l
    induction l with
    | nil => rfl
    | cons c l ih =>
      have : examineOne c s = s := by simp [examineOne, h c]
      rw [List.foldl_cons, this, ih]
  exact all allChannels

end Sys2Proof.Laws
end

