-- ==== Sys2Proof/Laws/Steps.lean ====
section
/-! SUPPORT. What holds of every event the part takes and of every command the Command Unit takes, said
once, and what no command changes. -/

namespace Sys2Proof.Laws

open Sys2Proof.Machine

/-! ### Every command answers a next state -/

theorem exec_completes (c : Instr) (s : State) : ∃ t, exec c s = .next t := by
  cases c <;> exact ⟨_, rfl⟩

theorem step_completes (s : State) : ∃ t, step s = .next t := by
  unfold step
  split
  · exact exec_completes _ _
  · split
    · exact exec_completes _ _
    · exact ⟨_, rfl⟩

/-! ### Events -/

/-- While RESET is held an event does nothing. -/
theorem event_held {s : State} (h : s.resetHeld = true) (f : State → State) : s.event f = s := by
  simp [State.event, h]

/-- While RESET is not held an event is taken, with the drained report it may bring. -/
theorem event_live {s : State} (h : s.resetHeld = false) (f : State → State) :
    s.event f = s.reportDrained (f s) := by
  simp [State.event, h]

/-- The drained condition reads the references, the mode and the active channels alone. -/
theorem drainedInParking_congr {a b : State} (hm : a.scs.mode = b.scs.mode)
    (hr : a.rfs.channels = b.rfs.channels)
    (ht : a.tbs.active.channels = b.tbs.active.channels) :
    a.drainedInParking = b.drainedInParking := by
  unfold State.drainedInParking State.drained State.enabled State.entry State.ref
  rw [hm, hr, ht]

/-- An event that leaves the references, the mode and the active channels brings no report. -/
theorem reportDrained_same {a b : State} (hm : a.scs.mode = b.scs.mode)
    (hr : a.rfs.channels = b.rfs.channels)
    (ht : a.tbs.active.channels = b.tbs.active.channels) : b.reportDrained a = a := by
  simp [State.reportDrained, drainedInParking_congr hm hr ht]

/-- Outside PARKING no report is sent. -/
theorem reportDrained_elsewhere {a b : State} (h : a.scs.mode ≠ .parking) :
    b.reportDrained a = a := by
  simp [State.reportDrained, State.drainedInParking, h]

/-- A report changes the count of reports alone. -/
theorem reportDrained_rfs (a b : State) :
    (b.reportDrained a).rfs = a.rfs ∨
      (b.reportDrained a).rfs = { a.rfs with drainReports := a.rfs.drainReports + 1 } := by
  unfold State.reportDrained; split
  · exact .inr rfl
  · exact .inl rfl

@[simp] theorem reportDrained_channels (a b : State) :
    (b.reportDrained a).rfs.channels = a.rfs.channels := by
  rcases reportDrained_rfs a b with h | h <;> rw [h]

@[simp] theorem reportDrained_tagCounter (a b : State) :
    (b.reportDrained a).rfs.tagCounter = a.rfs.tagCounter := by
  rcases reportDrained_rfs a b with h | h <;> rw [h]

/-! ### The detector -/

/-- With a count left on the timer, with no timer, or with the levels agreeing, no change is taken. -/
theorem debounceOut_idle {s : State} (h : s.debounceDue = false) : s.debounceOut = s := by
  simp [State.debounceOut, h]

/-- A change that is due to ACTIVE is a head-end. -/
theorem debounceExpiry_headEnd {s u : State} (h : s.HeadEndFrom .debounceExpiry u) :
    exec .debounceExpiry s = .next (s.reportDrained u.headEnd) := by
  rcases h with ⟨_, hr, hd, hw, hl, rfl⟩ | ⟨e, _⟩
  · show Host.Outcome.next (s.event State.debounceOut) = _
    rw [event_live hr]
    have due : s.debounceDue = true := by simp [State.debounceDue, hd, hw, hl]
    simp only [State.debounceOut, due, if_true, State.takeChange, hw]
    rfl
  · cases e

/-- A change that is due to INACTIVE is a tail-end. -/
theorem debounceExpiry_tailEnd {s u : State} (h : s.TailEndFrom .debounceExpiry u) :
    exec .debounceExpiry s = .next (s.reportDrained u.tailEnd) := by
  rcases h with ⟨_, hr, hd, hw, hl, rfl⟩ | ⟨e, _⟩
  · show Host.Outcome.next (s.event State.debounceOut) = _
    rw [event_live hr]
    have due : s.debounceDue = true := by simp [State.debounceDue, hd, hw, hl]
    simp only [State.debounceOut, due, if_true, State.takeChange, hw]
    rfl
  · cases e

/-! ### Commands of the Command Unit -/

/-- The command that waits is taken by its own row: it acts, and its reply is queued. -/
theorem takeCommand_waits {s : State} {c : Command} {rest : List Command} {row : Instr}
    (act : Command → State → Answer) (hw : s.Waits c rest) (hr : c.row = row) :
    s.takeCommand row act =
      let a := act c { s with cmu := { s.cmu with commands := rest } }
      { a.state with
        cmu := { a.state.cmu with
          replies := a.state.cmu.replies ++ [⟨c.tag, c.code, a.status, a.data⟩] } } := by
  obtain ⟨_, hc, hp⟩ := hw
  simp [State.takeCommand, hc, hp, hr]

/-- A command of another row is left where it is. -/
theorem takeCommand_other {s : State} {c : Command} {rest : List Command} {row : Instr}
    (act : Command → State → Answer) (hc : s.cmu.commands = c :: rest) (hr : c.row ≠ row) :
    s.takeCommand row act = s := by
  simp [State.takeCommand, hc, hr]

/-- The event of a command that only answers. -/
theorem event_answer {s : State} {c : Command} {rest : List Command} {row : Instr}
    (act : Command → State → Answer) (hw : s.Waits c rest) (hr : c.row = row) (status : Status)
    (data : List Byte)
    (ha : act c { s with cmu := { s.cmu with commands := rest } } =
      ⟨{ s with cmu := { s.cmu with commands := rest } }, status, data⟩) :
    s.event (State.takeCommand row act) = s.replied c rest status data := by
  rw [event_live hw.1, takeCommand_waits act hw hr]
  dsimp only
  rw [ha]
  exact reportDrained_same rfl rfl rfl

end Sys2Proof.Laws
end

