-- ==== Sys2Proof/WellFormed.lean ====
section
/-! DEFINITION. The well-formed commands: a frame row carries a frame of its row's kind, and a
discarded frame is one that fails a step of R173. Every other row is well formed whatever its
operands, whose types bound them. -/

namespace Sys2Proof

/-- The kind byte of a frame, offset 0 of its envelope (section 12.1). -/
def hasKind (kind : Byte) (frame : List Byte) : Bool := frame.head? == .some kind

/-- The frame fails a step of R173 on its link. -/
def failsCheck (link : Link) (frame : List Byte) : Bool :=
  match Machine.checkFrame link frame with
  | .failed _ => true
  | .passed _ => false

/-- What each row asks of its operands. -/
def Instr.wellFormed : Instr → Bool
  | .shotRecord frame => hasKind 0x11 frame
  | .concentratorMessage frame => hasKind 0x12 frame
  | .relayMessage frame => hasKind 0x32 frame
  | .commandFrame frame => hasKind 0x31 frame
  | .linkFrameDiscarded link frame => failsCheck link frame
  | .pulseEdge _ | .shellDetectChange _ | .debounceExpiry | .referenceIntervalExpiry _
  | .referenceTimeout _ | .dwellLimit _ | .tailTimeout _ | .parkDrainLimit | .drainedReport
  | .aLinkLockLost _ | .aLinkLockGained | .mLinkLockLost _ | .mLinkLockGained
  | .sendReferenceRequest | .sendRelayedMessage | .sendReply | .sendNotice | .sendReportFrame
  | .sendWallSample | .sendConcentratorMessage | .sendForwardedRecord | .hardReset | .identify
  | .loadChannel | .loadVelocity | .loadBank | .loadLine | .loadShortForm | .readTable | .activate
  | .selectBank | .forceHead | .forceTail | .park | .unpark | .fetchReport | .releaseReport
  | .readSnapshot | .armCapture | .readCapture | .readEvents | .clearEvents | .setEventMask
  | .readCounters | .restart | .unknownCommand | .frameSendComplete _ | .resetRelease => true

end Sys2Proof
end

