-- ==== Sys2Proof/Tests/Slice0.lean ====
section
/-! SUPPORT. Tests against the manual's worked examples, the smoke test of the well-formedness checks,
and for each statement with hypotheses a state and operands that meet them. -/

namespace Sys2Proof.Tests

open Sys2Proof.Machine

-- One theorem at a time: each evaluation in the kernel takes a thread of its own otherwise.
set_option Elab.async false

/-! ### The frame check (section 12.1) -/

/-- The check value of the CRC over "123456789", 12_links_frames_and_commands.md. -/
theorem test_crc_check_value :
    crc16 [0x31, 0x32, 0x33, 0x34, 0x35, 0x36, 0x37, 0x38, 0x39] = 0x29B1#16 := by decide +kernel

/-! ### Well-formed commands -/

theorem test_shot_record_of_another_kind :
    Instr.wellFormed (.shotRecord (Frame.bytes ⟨0x12, 0, []⟩)) = false := by decide +kernel

theorem test_concentrator_message_of_another_kind :
    Instr.wellFormed (.concentratorMessage (Frame.bytes ⟨0x11, 0, []⟩)) = false := by decide +kernel

theorem test_relay_message_of_another_kind :
    Instr.wellFormed (.relayMessage (Frame.bytes ⟨0x31, 0, []⟩)) = false := by decide +kernel

theorem test_command_frame_of_another_kind :
    Instr.wellFormed (.commandFrame []) = false := by decide +kernel

theorem test_discarded_frame_that_passes :
    Instr.wellFormed (.linkFrameDiscarded .mLink (Frame.bytes ⟨0x32, 0, [1]⟩)) = false := by
  decide +kernel

/-! ### Worked example: timing a shot of channel 3 (section 1.6)

The samples far below the thresholds are left out: those before 1480, and those from 1540 to 2360. -/

/-- Samples 1480 to 1539. -/
def firstEcho : List Int := List.replicate 20 0 ++ [150, 420, 900, 1180] ++ List.replicate 36 0

/-- Samples 2360 to 2419. -/
def secondEcho : List Int := List.replicate 24 0 ++ [110, 300, 520, 610] ++ List.replicate 32 0

/-- Channel 3 of the examples of chapters 1, 3 and 6; the fields they do not give are arbitrary. -/
def exampleEntry : ChannelEntry where
  enabled := true
  g1Start := 0
  g1Length := 300
  b1Threshold := 200
  b2SpacingMin := 700
  b2SpacingMax := 1100
  b2Threshold := 150
  peakWindow := 16
  fraction := 128
  r1Start := 0
  r1Length := 300
  rSpacingMin := 700
  rSpacingMax := 1100
  rThreshold := 150
  rnom := 128000
  refTolerance := 2000
  refInterval := 60000
  velocityTable := 1
  trim := 150
  headAngle := 1350
  holdLimit := 4
  live := true
  forward := .none

theorem test_example_first_echo :
    timeEcho firstEcho ⟨0, 59⟩ 200 16 128 = .timed ⟨21, 96086 - 1480 * 64⟩ := by decide +kernel

theorem test_example_second_echo :
    timeEcho secondEcho ⟨0, 59⟩ 150 16 128 = .timed ⟨25, 152641 - 2360 * 64⟩ := by decide +kernel

theorem test_example_crossing_below_the_arm_sample :
    timeEcho firstEcho ⟨0, 59⟩ 200 16 192 = .timed ⟨21, 96126 - 1480 * 64⟩ := by decide +kernel

theorem test_example_edge :
    timeEcho firstEcho ⟨22, 59⟩ 200 16 192 = .failed .edge := by decide +kernel

/-! ### Worked examples: wall arithmetic (chapter 3) -/

/-- Velocity table 1 of the examples. -/
def exampleVelocity : VelocityTable :=
  ⟨[⟨10000, 4820⟩, ⟨11000, 4700⟩, ⟨12000, 4570⟩, ⟨13000, 4430⟩]⟩

/-- The bank copy of the examples; the fields they do not give are arbitrary. -/
def exampleBank : ProductBank where
  productCode := 7
  nominal := 20000
  lowerTolerance := 2000
  upperTolerance := 2000
  plausibleMin := 5000
  plausibleMax := 60000
  contraction := 145
  zoneLength := 250
  sectors := 12
  helixPitch := 180
  mergeGap := 20
  minExcursionShots := 3
  minSectors := 3

theorem test_example_corrected_transit : correctedTransit 56555 128000 128032 = 56541 := by decide

theorem test_example_wall :
    computeWall exampleEntry exampleVelocity 128032 145 56555 11375 =
      ⟨20548, 20215, 4651, false⟩ := by decide +kernel

theorem test_example_unreferenced_wall :
    computeWall exampleEntry exampleVelocity 128000 145 56555 11375 =
      ⟨20553, 20220, 4651, false⟩ := by decide +kernel

theorem test_example_velocities :
    [9800, 10000, 11000, 11050, 12999, 13000, 13500].map
        (fun t => (exampleVelocity.velocityAt t, exampleVelocity.clampedAt t)) =
      [(4820, true), (4820, false), (4700, false), (4694, false), (4430, false), (4430, false),
       (4430, true)] := by decide +kernel

theorem test_example_limits :
    [5000, 17999, 18000, 22000, 22001, 60000].map exampleBank.classify =
      [.thin, .thin, .within, .within, .thick, .thick] ∧
    [4999, 5000, 60000, 60001].map exampleBank.plausible = [false, true, true, false] := by
  decide +kernel

/-! ### Worked examples: the wall map and the excursion list (chapter 6) -/

theorem test_example_helix :
    [0, 45, 179, 180, 2562, 31999, 32000].map
        (fun p => (exampleBank.zoneOf p, exampleBank.sectorOf 1350 p)) =
      [(0, 4), (0, 7), (0, 4), (0, 4), (10, 7), (127, 1), (128, 1)] := by decide +kernel

theorem test_example_cell_at_its_limit :
    let first := Cell.add 20450 ⟨65534, .some 19800, .some 20400, 1317233400⟩
    first = ⟨65535, .some 19800, .some 20450, 1317253850⟩ ∧
    Cell.add 19700 first = ⟨65535, .some 19700, .some 20450, 1317253850⟩ ∧
    first.mean = .some 20100 := by decide +kernel

/-- The thirteen shots of the runs example: channel, position, wall. -/
def exampleShots : List (Fin 8 × Nat × Nat) :=
  [(2, 3000, 17850), (6, 3004, 22150), (2, 3011, 17790), (6, 3015, 21900), (4, 3020, 17700),
   (2, 3024, 17900), (6, 3026, 22300), (4, 3038, 17650), (6, 3040, 22410), (2, 3047, 17950),
   (6, 3052, 22380), (4, 3056, 17720), (6, 3060, 22520)]

/-- The head angle of a channel of the runs example. -/
def exampleAngle (c : Fin 8) : Nat := if c = 2 then 450 else if c = 4 then 900 else 2250

/-- One shot of the runs example taken into a shell. -/
def takeExampleShot (sh : Shell) (shot : Fin 8 × Nat × Nat) : Shell :=
  sh.accept (shotOf shot.1 { exampleEntry with headAngle := exampleAngle shot.1 } exampleBank
    shot.2.1 shot.2.2 false)

theorem test_example_runs :
    (exampleShots.foldl takeExampleShot (newShell exampleBank 41 1 0)).excursions =
      [⟨2, .thin, 3000, 3024, 17790, 9, 3⟩, ⟨4, .thin, 3020, 3056, 17650, 0, 3⟩,
       ⟨6, .thick, 3026, 3060, 22520, 5, 4⟩] := by decide +kernel

/-! ### Worked example: the figures of a small shell (chapter 7) -/

/-- Zone 0 of the example. -/
def exampleZone0 : List Cell :=
  [⟨3, .some 19900, .some 20100, 60000⟩, ⟨2, .some 20300, .some 20500, 40800⟩,
   ⟨4, .some 19500, .some 19700, 78400⟩, .empty]

/-- Zone 2 of the example. -/
def exampleZone2 : List Cell :=
  [⟨1, .some 17800, .some 17800, 17800⟩, ⟨2, .some 18100, .some 18301, 36401⟩, .empty,
   ⟨1, .some 22100, .some 22100, 22100⟩]

theorem test_example_zone_figures :
    [exampleZone0, exampleZone2].map (fun row => (coveredSectors row, zoneShots row)) =
      [(3, 9), (3, 4)] ∧
    [exampleZone0, exampleZone2].map (fun row => (zoneMin row, zoneMax row, zoneMean row)) =
      [(.some 19500, .some 20500, .some 20000), (.some 17800, .some 22100, .some 19367)] ∧
    [exampleZone0, exampleZone2].map
        (fun row => (eccentricity 3 row, verdictByte exampleBank row)) =
      [(.some 200, 0), (.some 1078, 3)] := by decide +kernel

/-- The shell of the example, COMPLETE, with two entries in its list. -/
def exampleShell : Shell :=
  { newShell { exampleBank with sectors := 4 } 52 9 14200 with
    phase := .complete 15020
    accepted := 13
    wallSum := 255501
    map := exampleZone0 :: List.replicate 4 .empty :: exampleZone2 ::
      List.replicate 125 (List.replicate 4 .empty)
    excursions := [⟨2, .thin, 0, 1, 17800, 0, 3⟩, ⟨2, .thick, 2, 3, 22100, 0, 3⟩] }

theorem test_example_shell_figures :
    exampleShell.zonesReported = 3 ∧ exampleShell.wallMean = .some 19654 ∧
    exampleShell.maxEccentricity = .some (1078, 2) ∧
    [Detail.summary, .zones, .full].map exampleShell.frameCount = [4, 7, 10] := by decide +kernel

theorem test_example_stream_frame_types :
    (List.range 10).map (fun i => (reportItems exampleShell .full 10 i).1) =
      [0, 1, 1, 1, 2, 2, 3, 3, 3, 4] := by decide +kernel

/-! ### A small part

Channel 3, velocity table 0, product bank 0 and the line setup are present; every other entry is not. -/

/-- Channel 3: two echoes 20 samples apart give a transit of 1280 ticks. -/
def entry : ChannelEntry where
  enabled := true
  g1Start := 20
  g1Length := 10
  b1Threshold := 100
  b2SpacingMin := 16
  b2SpacingMax := 30
  b2Threshold := 80
  peakWindow := 4
  fraction := 128
  r1Start := 20
  r1Length := 10
  rSpacingMin := 16
  rSpacingMax := 30
  rThreshold := 80
  rnom := 1280
  refTolerance := 20000
  refInterval := 60000
  velocityTable := 0
  trim := 0
  headAngle := 1350
  holdLimit := 2
  live := true
  forward := .all

/-- A bank whose nominal wall is 500 µm. -/
def bank : ProductBank :=
  { exampleBank with
    nominal := 500, lowerTolerance := 100, upperTolerance := 100, plausibleMin := 100 }

/-- The line of the example of two shells across a gap (chapter 5). -/
def line : LineSetup where
  pulseEdge := .both
  umPerPulse := 1250
  polarity := .activeHigh
  debounce := 3
  ringOffset := 1250
  tailMargin := 300
  tailTimeout := 5000
  dwellLimit := 120
  refTimeout := 100
  keepReference := false
  parkDrainLimit := 20000

/-- The tables of the small part. -/
def tables : TableSet where
  channels := (Vector.replicate 8 .none).set 3 (.some entry)
  velocities := (Vector.replicate 4 .none).set 0 (.some exampleVelocity)
  banks := (Vector.replicate 4 .none).set 0 (.some bank)
  line := .some line

/-- Both links in lock, nothing active. -/
def linked : State := { State.reset with ali.inLock := true, mli.inLock := true, tbs.staged := tables }

/-- STANDBY, the tables active, channel 3 with backlog 8 and a QUEUED request. -/
def ready : State := linked.applyActivation

/-- MEASURING, shell 1 OPEN in context 0, its front 2750 mm past the ring. -/
def measuring : State := { ready.headEnd with tru.lengthCounter := 4000000 }

/-- MEASURING, shell 1 CLOSING in context 0. -/
def closing : State := measuring.tailEnd

/-- STANDBY, shell 1 COMPLETE in context 0. -/
def finished : State := { closing with tru.lengthCounter := 6000000 }.lengthAdvance

/-- PARKING, channel 3 not drained. -/
def parking : State := { ready with scs.parkRequest := true }.enterParking

/-- PARKED, without keep-reference. -/
def parked : State := parking.enterParked

/-- A part at which one command waits. -/
def given (s : State) (code : Byte) (args : List Byte) : State :=
  { s with cmu.commands := [⟨0x5A, code, args⟩] }

/-- The command at the front is the one given, and the Command Unit can take it. -/
theorem waits_given (s : State) (code : Byte) (args : List Byte) (hr : s.resetHeld = false)
    (hq : s.cmu.replies.length < 8) : (given s code args).Waits ⟨0x5A, code, args⟩ [] :=
  ⟨hr, rfl, hq⟩

/-- 64 samples with the two echoes of `entry`. -/
def echoes : List Int :=
  List.replicate 24 0 ++ [50, 400] ++ List.replicate 18 0 ++ [50, 400] ++ List.replicate 18 0

/-- The payload of a record of channel 3: kind, tag, sequence and temperature as given. -/
def recordOf (kind tag sequence temperature : Nat) (samples : List Int) : List Byte :=
  ShotRecord.payload ⟨3, kind, tag, sequence, temperature, samples.length, samples⟩

/-- A frame that carries a payload. -/
def carry (kind : Byte) (payload : List Byte) : List Byte := Frame.bytes ⟨kind, 0, payload⟩

theorem test_small_echoes :
    timeRecord echoes entry entry.measurementGates = .timed 1563 2843 1280 ∧
    timeRecord echoes entry entry.referenceGates = .timed 1563 2843 1280 := by decide +kernel

theorem test_small_part :
    ready.scs.mode = .standby ∧ measuring.scs.mode = .measuring ∧ closing.scs.mode = .measuring ∧
    finished.scs.mode = .standby ∧ parking.scs.mode = .parking ∧ parked.scs.mode = .parked ∧
    (finished.scs.contexts[0]).any Shell.isComplete = true ∧
    (closing.scs.contexts[0]).any Shell.isClosing = true := by decide +kernel

/-! ### Witnesses: the machine as a whole -/

theorem witness_StepTakesTheFrontCommand :
    { ready with pending := [.identify, .park] }.pending = .identify :: [.park] := rfl

theorem witness_CommandsLeaveTheQueue :
    ∃ t, exec .forceHead { ready with pending := [.identify] } = .next t := Laws.exec_completes _ _

/-- A part held in reset. -/
def held : State := ready.held

theorem witness_HeldPartStandsStill :
    held.resetHeld = true ∧ Instr.pulseEdge true ≠ .hardReset ∧ Instr.pulseEdge true ≠ .resetRelease ∧
    Instr.shellDetectChange true ≠ .hardReset ∧ Instr.shellDetectChange true ≠ .resetRelease ∧
    Instr.restart ≠ .hardReset ∧ Instr.restart ≠ .resetRelease := by decide +kernel

theorem witness_StepKeepsQueuesWithinCapacity :
    measuring.QueuesFit ∧ ∃ t, step measuring = .next t :=
  ⟨by unfold State.QueuesFit; decide +kernel, Laws.step_completes _⟩

/-- What holds of the request frames in the queue, when it can be checked channel by channel: a queued
frame is its channel's QUEUED request, and stands there once. -/
theorem requestsQueued_of {s : State}
    (h : ∀ c : Fin 8, ∀ q ∈ s.ali.outQueue, ∀ t, q = .request c t →
      s.rfs.channels[c].request = .some ⟨t, .queued⟩)
    (once : ∀ c : Fin 8, ∀ q ∈ s.rfs.channels[c].request, q.phase = .queued →
      s.ali.outQueue.count (.request c q.tag) = 1) : s.RequestsQueued := by
  intro c tag
  split
  · next e => exact once c _ e rfl
  · next e => exact List.count_eq_zero.mpr fun m => e (h c _ m tag rfl)

theorem ready_RequestsQueued : ready.RequestsQueued := by
  have q : ready.ali.outQueue = [.request 3 0] := by decide +kernel
  have r : ready.rfs.channels[(3 : Fin 8)].request = .some ⟨0, .queued⟩ := by decide +kernel
  refine requestsQueued_of ?_ (by decide +kernel)
  intro c a m t e
  rw [q, List.mem_singleton] at m
  cases m.symm.trans e
  exact r

theorem witness_StepKeepsReferencesConsistent :
    measuring.BacklogsInRange ∧ measuring.ReferencesFollow ∧ ready.RequestsQueued ∧
    (∃ t, step measuring = .next t) ∧ ∃ t, step ready = .next t :=
  ⟨by unfold State.BacklogsInRange; decide +kernel, by unfold State.ReferencesFollow; decide +kernel,
   ready_RequestsQueued, Laws.step_completes _, Laws.step_completes _⟩

/-- What is checked shell by shell holds of every shell. -/
theorem forall_shells {s : State} {p : Fin 4 → Shell → Prop}
    (h : ∀ i : Fin 4, ∀ sh ∈ s.scs.contexts[i], p i sh) (i : Fin 4) (sh : Shell)
    (e : s.scs.contexts[i] = .some sh) : p i sh := h i sh e

/-- What is checked of every two shells holds of every two. -/
theorem forall_pairs {s : State} {p : Fin 4 → Fin 4 → Shell → Shell → Prop}
    (h : ∀ i j : Fin 4, ∀ a ∈ s.scs.contexts[i], ∀ b ∈ s.scs.contexts[j], p i j a b)
    (i j : Fin 4) (a b : Shell) (ha : s.scs.contexts[i] = .some a)
    (hb : s.scs.contexts[j] = .some b) : p i j a b := h i j a ha b hb

/-- Shells 1, 2 and 3, COMPLETE, CLOSING and OPEN. -/
def three : State :=
  { { closing with tru.lengthCounter := 6000000 }.lengthAdvance.headEnd with
    tru.lengthCounter := 9000000 }.tailEnd.headEnd

theorem test_three_shells :
    three.holds Shell.isComplete 0 = true ∧ three.holds Shell.isClosing 1 = true ∧
    three.holds Shell.isOpen 2 = true ∧ three.scs.mode = .measuring := by decide +kernel

theorem three_SequencesOrdered : three.SequencesOrdered :=
  ⟨by decide +kernel, forall_shells (by decide +kernel), forall_pairs (by decide +kernel)⟩

theorem three_OneOpen : three.OneOpen := by unfold State.OneOpen; decide +kernel

theorem witness_StepKeepsContextsDistinct :
    three.OneOpen ∧ three.SequencesOrdered ∧ ∃ t, step three = .next t :=
  ⟨three_OneOpen, three_SequencesOrdered, Laws.step_completes _⟩

theorem three_ModeAgrees : three.ModeAgrees := by unfold State.ModeAgrees; decide +kernel

theorem witness_StepKeepsModeStateConsistent :
    three.ModeAgrees ∧ parking.ParkAgrees ∧ (∃ t, step three = .next t) ∧
    ∃ t, step parking = .next t :=
  ⟨three_ModeAgrees, by unfold State.ParkAgrees; decide +kernel, Laws.step_completes _,
   Laws.step_completes _⟩

theorem witness_StepKeepsShellRecordsSound :
    three.ListsOrdered ∧ finished.MapsSound ∧ (∃ t, step three = .next t) ∧
    ∃ t, step finished = .next t := by
  refine ⟨?_, ?_, Laws.step_completes _, Laws.step_completes _⟩
  · unfold State.ListsOrdered Shell.ListOrdered
    exact forall_shells (by decide +kernel)
  · have shape : ∀ i : Fin 4, ∀ sh ∈ finished.scs.contexts[i],
        sh.map = List.replicate 128 (List.replicate sh.bank.sectors .empty) := by decide +kernel
    intro i sh e
    unfold Shell.MapSound
    rw [shape i sh e]
    refine ⟨by simp [Config.zones], ?_⟩
    intro row hrow
    rw [(List.mem_replicate.mp hrow).2]
    refine ⟨by simp, ?_⟩
    intro cell hcell
    rw [(List.mem_replicate.mp hcell).2]
    exact ⟨by decide, fun _ => rfl, fun h => absurd rfl h⟩

theorem witness_StepLeavesNoRequestOwed :
    ready.NoneOwed ∧ ∃ t, step ready = .next t :=
  ⟨by unfold State.NoneOwed; decide +kernel, Laws.step_completes _⟩

theorem witness_ResetClearsEveryBlockAndReadsTheLines :
    held.resetHeld = true ∧ { held with pins := ⟨true, true⟩ }.resetHeld = true := by decide +kernel

/-! ### Witnesses: frames and links -/

theorem witness_FrameCheckReadsBackEveryFrame :
    (0x11 : Byte) ∈ inboundKinds .aLink ∧ (0x32 : Byte) ∈ inboundKinds .mLink ∧
    9 ≤ (List.replicate 9 (0 : Byte)).length ∧ (List.replicate 8201 (0 : Byte)).length ≤ 8201 :=
  ⟨by decide, by decide, by decide, Nat.le_of_eq List.length_replicate⟩

theorem witness_FailingFrameIsDiscarded :
    ready.resetHeld = false ∧ ready.linkInLock .aLink = true ∧ ready.linkInLock .mLink = true ∧
    checkFrame .aLink [] = .failed .crc ∧
    checkFrame .aLink (carry 0x11 (List.replicate 8 0)) = .failed .length ∧
    checkFrame .aLink (carry 0x31 [1, 1]) = .failed .kind ∧
    checkFrame .mLink [1, 2, 3] = .failed .crc ∧
    checkFrame .mLink [0xE1, 0xF0] = .failed .crc ∧
    checkFrame .mLink (digits 2 0xFFFF) = .failed .length ∧
    checkFrame .mLink (carry 0x11 (List.replicate 9 0)) = .failed .kind := by decide +kernel

theorem witness_ConcentratorMessageIsRelayed :
    ready.resetHeld = false ∧ ready.ali.inLock = true ∧
    checkFrame .aLink (carry 0x12 [7]) = .passed ⟨0x12, 0, [7]⟩ ∧
    { ready with mli.relayQueue := List.replicate 15 ⟨0, []⟩ }.mli.relayQueue.length < 16 ∧
    ¬ { ready with mli.relayQueue := List.replicate 16 ⟨0, []⟩ }.mli.relayQueue.length < 16 := by
  decide +kernel

theorem witness_RelayMessageJoinsTheAOutQueue :
    ready.resetHeld = false ∧ ready.mli.inLock = true ∧
    checkFrame .mLink (carry 0x32 []) = .passed ⟨0x32, 0, []⟩ ∧
    { ready with ali.outQueue := List.replicate 7 (.relayed ⟨0, []⟩) }.ali.outQueue.length < 8 ∧
    8 ≤ { ready with ali.outQueue := List.replicate 8 (.relayed ⟨0, []⟩) }.ali.outQueue.length := by
  decide +kernel

theorem witness_CommandFrameJoinsTheCommandQueue :
    ready.resetHeld = false ∧ ready.mli.inLock = true ∧
    checkFrame .mLink (carry 0x31 [9, 1]) = .passed ⟨0x31, 0, [9, 1]⟩ ∧
    { ready with cmu.commands := List.replicate 3 ⟨0, 0, []⟩ }.cmu.commands.length < 4 ∧
    4 ≤ { ready with cmu.commands := List.replicate 4 ⟨0, 0, []⟩ }.cmu.commands.length ∧
    checkFrame .mLink (carry 0x31 [9]) = .passed ⟨0x31, 0, [9]⟩ := by decide +kernel

theorem witness_ALinkLockDecidesRequests :
    ready.RequestsQueued ∧ ready.resetHeld = false ∧ ready.ali.inLock = true ∧
    { ready with ali.inLock := false }.resetHeld = false ∧
    { ready with ali.inLock := false }.ali.inLock = false :=
  ⟨ready_RequestsQueued, by decide +kernel⟩

theorem witness_MLinkLockAndFrameEnds :
    ready.resetHeld = false ∧ ready.mli.inLock = true := by decide +kernel

/-! ### Witnesses: sending -/

/-- Channel 3's request takes a value. -/
def withRequest (q : Option Request) (s : State) : State :=
  s.rfsChannel 3 fun r => { r with request := q }

theorem witness_AOutQueueIsSentRequestsFirst :
    (ready.resetHeld = false ∧ ready.ali.inLock = true ∧ ready.ali.sending = .none ∧
      ready.ali.outQueue.find? AOut.isRequest = .some (.request 3 0) ∧
      ready.rfs.channels[(3 : Fin 8)].request = .some ⟨0, .queued⟩) ∧
    { ready with ali.outQueue := [.relayed ⟨1, [2]⟩] }.ali.outQueue = .relayed ⟨1, [2]⟩ :: [] ∧
    ([] : List AOut).any AOut.isRequest = false := by decide +kernel

theorem witness_ArbiterSendsHighestClass :
    ready.resetHeld = false ∧ ready.mli.inLock = true ∧ ready.mli.sending = .none ∧
    ready.cmu.replies = [] ∧ ready.evu.urgent = [] ∧ ready.rpb = .none ∧ ready.evu.routine = [] ∧
    ready.ldu.liveQueue = [] ∧ ready.mli.relayQueue = [] ∧
    { ready with mli.forwardQueue := [⟨.noB1, [3]⟩] }.mli.forwardQueue = ⟨.noB1, [3]⟩ :: [] := by
  decide +kernel

/-- The full report of the example of chapter 7 being streamed from frame `next` of 10. -/
def streaming (next : Nat) : State :=
  { ready with
    scs.contexts := (Vector.replicate 4 .none).set 0 (.some exampleShell)
    rpb := .some ⟨52, .full, 10, next⟩ }

theorem witness_ReportFrameAdvancesTheStream :
    (∀ next ∈ List.range 10, (streaming next).resetHeld = false ∧
      (streaming next).mli.inLock = true ∧ (streaming next).mli.sending = .none ∧
      (streaming next).cmu.replies = [] ∧ (streaming next).evu.urgent = [] ∧
      (streaming next).rpb = .some ⟨52, .full, 10, next⟩ ∧
      (streaming next).contextOf 52 = .some 0 ∧
      (streaming next).scs.contexts[(0 : Fin 4)] = .some exampleShell) ∧
    (9 + 1 = 10 ∧ exampleShell.zonesReported = 3 ∧ exampleShell.excursions.length = 2 ∧
      exampleShell.excursions[5 - 1 - 3]? = .some ⟨2, .thick, 2, 3, 22100, 0, 3⟩ ∧ 3 + 2 < 6) ∧
    exampleShell.maxEccentricity = .some (1078, 2) ∧ (newShell bank 1 1 0).maxEccentricity = .none := by
  decide +kernel

/-! ### Witnesses: references and lines -/

theorem witness_ExaminationIssuesEveryOwedRequest :
    { ready with rfs.tagCounter := 255 }.rfs.tagCounter < 256 := by
  decide +kernel

/-- The small part with every queue empty, its links out of lock, a departure of the detector with
`left` marks to run, and channel 3's request SENT. -/
def quiet (left : Nat) : State :=
  { withRequest (.some ⟨7, .sent 9⟩) ready with
    ali := ⟨false, .none, []⟩
    mli.inLock := false
    pins.shellDetect := true
    tru.debounce := .some left }

theorem witness_ReferenceExpiriesCountAndLose :
    (ready.resetHeld = false ∧ ready.intervalsRun = true ∧
      enabledEntry ready.tbs.active.channels[(3 : Fin 8)] = .some entry ∧
      ready.rfs.channels[(3 : Fin 8)].interval = .some 60000 ∧
      ready.rfs.channels[(3 : Fin 8)].backlog ≤ 15) ∧
    (ready.rfsChannel 3 fun r => { r with backlog := 11 }).rfs.channels[(3 : Fin 8)].backlog = 11 ∧
    (ready.rfsChannel 3 fun r => { r with backlog := 15 }).rfs.channels[(3 : Fin 8)].backlog = 15 ∧
    (withRequest (.some ⟨7, .sent 0⟩) ready).resetHeld = false ∧
    (withRequest (.some ⟨7, .sent 0⟩) ready).rfs.channels[(3 : Fin 8)].request =
      .some ⟨7, .sent 0⟩ ∧
    (∀ left ∈ [0, 1], (quiet left).resetHeld = false ∧ (quiet left).pending = [] ∧
      (quiet left).ownAct = .none ∧ (quiet left).tru.debounce = .some left ∧
      (quiet left).rawLevel ≠ (quiet left).tru.detectorLevel) := by decide +kernel

theorem witness_PulseEdgeCountsTravel :
    ready.resetHeld = false ∧ false = ready.tru.pulseLevel ∧ true ≠ ready.tru.pulseLevel ∧
    State.reset.line = .none ∧ true ≠ State.reset.tru.pulseLevel ∧ ready.line = .some line ∧
    (true ≠ ready.tru.pulseLevel ∧
      { ready with tbs.active.line := .some { line with pulseEdge := .falling } }.line =
        .some { line with pulseEdge := .falling }) := by decide +kernel

theorem witness_LengthNeverFalls :
    (Instr.pulseEdge true ≠ .hardReset ∧ Instr.pulseEdge true ≠ .resetRelease ∧
      { ready with tru.lengthCounter := 2 ^ 48 - 1 }.tru.lengthCounter ≤ 2 ^ 48 - 1) ∧
    ∃ t, exec (.pulseEdge true) { ready with tru.lengthCounter := 2 ^ 48 - 1 } = .next t :=
  ⟨by decide +kernel, Laws.exec_completes _ _⟩

/-- Shell 1, CLOSING up to 5550 mm, with TAIL_FORCED. -/
def reachingShell : Shell :=
  { newShell bank 1 1 0 with
    phase := .closing 4000 5000 5550
    irregular := ⟨true, false, false, false, false⟩ }

/-- That shell one pulse before its completion length. -/
def reaching : State :=
  { closing with
    tru.lengthCounter := 5549000
    scs.contexts := closing.scs.contexts.set 0 (.some reachingShell) }

/-- CLOSING, with its completion length at or before a length. -/
def reachedAt (length : Nat) (sh : Shell) : Bool :=
  match sh.phase with
  | .closing _ _ completion => decide (completion ≤ length)
  | _ => false

/-- The sequence number 1 alone is what the one shell of context 0 gives. -/
theorem oldestFirst_one {s : State} {p : Shell → Bool}
    (some : ∃ sh, s.scs.contexts[(0 : Fin 4)] = .some sh ∧ p sh = true ∧ sh.sequence = 1)
    (none : ∀ (i : Fin 4) (sh : Shell), s.scs.contexts[i] = .some sh → p sh = true →
      sh.sequence = 1) : s.OldestFirst p [1] := by
  refine ⟨List.pairwise_singleton _ _, fun q => ⟨fun m => ?_, fun ⟨i, sh, e, hp, hq⟩ => ?_⟩⟩
  · cases List.mem_singleton.mp m
    exact ⟨0, some⟩
  · exact List.mem_singleton.mpr (hq.symm.trans (none i sh e hp))

theorem witness_LengthAdvanceCompletesReachedShells :
    (∀ s ∈ [closing, reaching], s.resetHeld = false ∧ true ≠ s.tru.pulseLevel ∧
      s.line = .some line ∧ line.pulseEdge = .both ∧ s.scs.mode = .measuring ∧
      s.tru.lengthCounter / 1000 < min (s.tru.lengthCounter + 1250) (2 ^ 48 - 1) / 1000) ∧
    (∀ e ∈ [(PulseEdge.rising, true), (.falling, false)], ∀ level,
      { ready with
        tru.pulseLevel := level
        tbs.active.line := .some { line with pulseEdge := e.1 } }.line =
          .some { line with pulseEdge := e.1 }) ∧
    reaching.SequencesOrdered ∧
    (reaching.OldestFirst (reachedAt 5550) [1] ∧
      reaching.OldestFirst (fun sh => reachedAt 5550 sh && sh.irregular.tailForced) [1]) ∧
    (reaching.scs.contexts[(0 : Fin 4)]).map (·.phase) = .some (.closing 4000 5000 5550) ∧
    5550 ≤ (5549000 + 1250) / 1000 ∧ (∀ j, j ≠ 0 → reaching.holds Shell.inRing j = false) := by
  have at0 : reaching.scs.contexts[(0 : Fin 4)] = .some reachingShell := by decide +kernel
  have one := forall_shells (s := reaching) (p := fun _ sh => sh.sequence = 1) (by decide +kernel)
  refine ⟨by decide +kernel, by decide +kernel,
    ⟨by decide +kernel, forall_shells (by decide +kernel), forall_pairs (by decide +kernel)⟩,
    ⟨oldestFirst_one ⟨_, at0, rfl, rfl⟩ fun i sh e _ => one i sh e,
     oldestFirst_one ⟨_, at0, rfl, rfl⟩ fun i sh e _ => one i sh e⟩, by decide +kernel, by decide,
    by decide +kernel⟩

theorem witness_DetectorDepartsAndReturns : ready.resetHeld = false := by decide +kernel

/-! ### Witnesses: shells -/

/-- The departure of the detector has run out on a line that stands high or low. -/
def departed (high : Bool) (s : State) : State :=
  { s with
    pins.shellDetect := high
    tru.detectorLevel := if high then .inactive else .active
    tru.debounce := .some 0 }

/-- FORCE HEAD brings a head-end. -/
theorem headEndFrom_given (s : State) (hr : s.resetHeld = false) (hq : s.cmu.replies.length < 8) :
    ∃ u, (given s 0x09 []).HeadEndFrom .forceHead u :=
  ⟨_, .inr ⟨rfl, _, _, waits_given _ _ _ hr hq, rfl, rfl, rfl⟩⟩

/-- The detector brings a head-end. -/
theorem headEndFrom_departed (s : State) (hr : s.resetHeld = false)
    (h : (departed true s).rawLevel = .active) :
    ∃ u, (departed true s).HeadEndFrom .debounceExpiry u :=
  ⟨_, .inl ⟨rfl, hr, rfl, h, rfl, rfl⟩⟩

/-- FORCE TAIL brings a tail-end. -/
theorem tailEndFrom_given (s : State) (hr : s.resetHeld = false) (hq : s.cmu.replies.length < 8) :
    ∃ u, (given s 0x0A []).TailEndFrom .forceTail u :=
  ⟨_, .inr ⟨rfl, _, _, waits_given _ _ _ hr hq, rfl, rfl, rfl⟩⟩

/-- The detector brings a tail-end. -/
theorem tailEndFrom_departed (s : State) (hr : s.resetHeld = false)
    (h : (departed false s).rawLevel = .inactive) :
    ∃ u, (departed false s).TailEndFrom .debounceExpiry u :=
  ⟨_, .inl ⟨rfl, hr, rfl, h, rfl, rfl⟩⟩

theorem witness_HeadEndOpensAShell :
    (∀ s ∈ [ready, parked, parking, closing],
      s.resetHeld = false ∧ s.scs.mode ≠ .unconfigured ∧
      (∀ j, s.holds Shell.isOpen j = false) ∧ s.tbs.activationPending = false ∧
      s.scs.nextSequence ≠ 0 ∧ s.tbs.active.banks[s.tbs.selectedBank] = .some bank) ∧
    ready.scs.contexts[(0 : Fin 4)] = .none ∧
    (closing.scs.contexts[(1 : Fin 4)] = .none ∧ ∀ j : Fin 4, j < 1 → closing.scs.contexts[j] ≠ .none) ∧
    (∃ u, (departed true ready).HeadEndFrom .debounceExpiry u) ∧
    (∃ u, (given ready 0x09 []).HeadEndFrom .forceHead u) :=
  ⟨by decide +kernel, by decide +kernel, by decide +kernel,
   headEndFrom_departed _ (by decide +kernel) (by decide +kernel),
   headEndFrom_given _ (by decide +kernel) (by decide +kernel)⟩

/-- The line setup of the small part with ring offset and tail margin 0. -/
def atRing (s : State) : State :=
  { s with tbs.active.line := .some { line with ringOffset := 0, tailMargin := 0 } }

theorem witness_TailEndClosesTheOpenShell :
    (three.OneOpen ∧ three.holds Shell.isOpen 2 = true ∧ three.holds Shell.inRing 1 = true ∧
      0 < three.lineField (·.ringOffset) + three.lineField (·.tailMargin)) ∧
    ((∃ u, (departed false three).TailEndFrom .debounceExpiry u) ∧
      ∃ u, (given three 0x0A []).TailEndFrom .forceTail u) ∧
    (linked.OneOpen ∧ (∀ i, linked.holds Shell.isOpen i = false) ∧
      ∃ u, (given linked 0x0A []).TailEndFrom .forceTail u) ∧
    (∀ s ∈ [atRing measuring, atRing three], s.resetHeld = false ∧ s.cmu.replies.length < 8 ∧
      s.lineField (·.ringOffset) + s.lineField (·.tailMargin) = 0 ∧ s.scs.mode = .measuring) ∧
    ((atRing measuring).holds Shell.isOpen 0 = true ∧
      (∀ j, j ≠ 0 → (atRing measuring).holds Shell.inRing j = false) ∧
      (atRing three).holds Shell.isOpen 2 = true ∧ (atRing three).holds Shell.inRing 1 = true) :=
  ⟨⟨three_OneOpen, by decide +kernel⟩,
   ⟨tailEndFrom_departed _ (by decide +kernel) (by decide +kernel),
    tailEndFrom_given _ (by decide +kernel) (by decide +kernel)⟩,
   ⟨by unfold State.OneOpen; decide +kernel, by decide +kernel,
    tailEndFrom_given _ (by decide +kernel) (by decide +kernel)⟩,
   by decide +kernel, by decide +kernel⟩

/-- Shells 1, 2 and 3 with an activation pending. -/
def threeWaiting : State := { three with tbs.activationPending := true }

/-- Four contexts held: shells 1, 2 and 3, and shell 4 OPEN, with an activation pending. -/
def fourWaiting : State := { three.headEnd with tbs.activationPending := true }

theorem witness_HeadEndForcesTheTail :
    (∀ s ∈ [three, atRing three, threeWaiting, fourWaiting], s.resetHeld = false ∧
      s.cmu.replies.length < 8 ∧ s.scs.mode = .measuring) ∧
    (three.OneOpen ∧ threeWaiting.OneOpen ∧ fourWaiting.OneOpen) ∧
    ((∃ u, (departed true three).HeadEndFrom .debounceExpiry u) ∧
      ∃ u, (given threeWaiting 0x09 []).HeadEndFrom .forceHead u) ∧
    (three.holds Shell.isOpen 2 = true ∧
      three.tbs.activationPending = false ∧
      0 < three.lineField (·.ringOffset) + three.lineField (·.tailMargin) ∧
      three.scs.contexts[(3 : Fin 4)] = .none ∧
      (∀ k : Fin 4, k < 3 → three.scs.contexts[k] ≠ .none) ∧ three.scs.nextSequence ≠ 0 ∧
      three.tbs.active.banks[three.tbs.selectedBank] = .some bank) ∧
    (threeWaiting.tbs.activationPending = true ∧ threeWaiting.scs.contexts[(3 : Fin 4)] = .none ∧
      (∀ k : Fin 4, k < 3 → threeWaiting.scs.contexts[k] ≠ .none) ∧
      threeWaiting.tbs.staged.banks[threeWaiting.tbs.selectedBank] = .some bank) ∧
    (fourWaiting.tbs.activationPending = true ∧ (∀ k : Fin 4, fourWaiting.scs.contexts[k] ≠ .none) ∧
      fourWaiting.holds (fun sh => !fourWaiting.streamed sh) 0 = true ∧
      ∀ k : Fin 4, k ≠ 0 → fourWaiting.holds (fun sh => !fourWaiting.streamed sh) k = true →
        fourWaiting.sequenceAt 0 < fourWaiting.sequenceAt k) ∧
    { threeWaiting with tbs.selectedBank := 3 }.tbs.staged.banks[(3 : Fin 4)] = .none :=
  ⟨by decide +kernel, ⟨three_OneOpen, by unfold State.OneOpen; decide +kernel,
    by unfold State.OneOpen; decide +kernel⟩,
   ⟨headEndFrom_departed _ (by decide +kernel) (by decide +kernel),
    headEndFrom_given _ (by decide +kernel) (by decide +kernel)⟩,
   by decide +kernel, by decide +kernel, by decide +kernel, by decide +kernel⟩

theorem witness_DwellLimitClosesTheShell :
    (measuring.resetHeld = false ∧ measuring.holds Shell.isOpen 0 = true ∧
      0 < measuring.lineField (·.ringOffset) + measuring.lineField (·.tailMargin)) ∧
    ((atRing measuring).resetHeld = false ∧ (atRing measuring).holds Shell.isOpen 0 = true ∧
      (atRing measuring).lineField (·.ringOffset) = 0 ∧
      (atRing measuring).lineField (·.tailMargin) = 0) ∧
    (given (atRing measuring) 0x0A []).OneOpen ∧
    (given (atRing measuring) 0x0A []).Waits ⟨0x5A, 0x0A, []⟩ [] :=
  ⟨by decide +kernel, by decide +kernel, by unfold State.OneOpen; decide +kernel,
   waits_given _ _ _ (by decide +kernel) (by decide +kernel)⟩

theorem witness_TailTimeoutCompletesTheShell :
    (three.resetHeld = false ∧ three.holds Shell.isClosing 1 = true ∧ three.scs.mode = .measuring ∧
      three.holds Shell.inRing 2 = true) ∧
    (closing.resetHeld = false ∧ closing.holds Shell.isClosing 0 = true ∧
      closing.scs.mode = .measuring ∧ ∀ j, j ≠ 0 → closing.holds Shell.inRing j = false) := by
  decide +kernel

theorem witness_ParkingEndsInParked :
    (parking.resetHeld = false ∧ parking.scs.drainTimer = .some 20000 ∧
      parking.scs.mode = .parking) ∧
    0 < { parking with rfs.drainReports := 1 }.rfs.drainReports ∧
    0 < { ready with rfs.drainReports := 1 }.rfs.drainReports ∧ ready.scs.mode ≠ .parking := by
  decide +kernel

/-- The tail of the CLOSING shell is in the ring. -/
def tailInRing : Shell → Bool := fun sh => match sh.phase with
  | .closing tailMark _ _ => decide (4000 < tailMark + 1250)
  | _ => false

theorem witness_ShotGoesToTailThenOpenShell :
    (closing.OneOpen ∧ measuring.OneOpen ∧ ready.OneOpen) ∧
    (closing.tru.lengthCounter / 1000 = 4000 ∧ closing.lineField (·.ringOffset) = 1250 ∧
      closing.holds tailInRing 0 = true ∧ ∀ j, j ≠ 0 → closing.holds tailInRing j = false) ∧
    ((∀ j, measuring.holds tailInRing j = false) ∧ measuring.holds Shell.isOpen 0 = true) ∧
    ((∀ j, ready.holds tailInRing j = false) ∧ ∀ j, ready.holds Shell.isOpen j = false) :=
  ⟨by unfold State.OneOpen; decide +kernel, by decide +kernel, by decide +kernel, by decide +kernel⟩

/-! ### Witnesses: shot records -/

/-- A measurement record of sequence 9 with a reading, and one without. -/
def measurement (temperature : Nat) : List Byte := recordOf 0 0 9 temperature echoes

/-- The small part with a temperature held for channel 3, of age 1. -/
def holding : State := measuring.etuChannel 3 fun e => { e with heldTemp := .some 11000, holdAge := 1 }

set_option maxRecDepth 4096 in
theorem witness_AcceptedShotIsBinned :
    (holding.resetHeld = false ∧ holding.ali.inLock = true ∧ holding.scs.mode = .measuring ∧
      enabledEntry holding.tbs.active.channels[(3 : Fin 8)] = .some entry ∧
      holding.assign = .assigned 0 2750 ∧ holding.holds (fun sh => sh.bank == bank) 0 = true ∧
      holding.velocityTable entry = exampleVelocity ∧ holding.rmeas 3 entry = 1280) ∧
    (∀ temperature ∈ [11000, 65535],
      checkFrame .aLink (carry 0x11 (measurement temperature)) =
        .passed ⟨0x11, 0, measurement temperature⟩ ∧
      slotOf (readShotRecord (measurement temperature)).channel = .some 3 ∧
      (readShotRecord (measurement temperature)).badLength (measurement temperature).length = false ∧
      (readShotRecord (measurement temperature)).kind = 0 ∧
      (readShotRecord (measurement temperature)).temperature = temperature ∧
      timeRecord (readShotRecord (measurement temperature)).samples entry entry.measurementGates =
        .timed 1563 2843 1280) ∧
    (holding.etu[(3 : Fin 8)].heldTemp = .some 11000 ∧
      holding.etu[(3 : Fin 8)].holdAge < entry.holdLimit) ∧
    (computeWall entry exampleVelocity 1280 145 1280 11000).wCold = 463 ∧
    bank.plausibleMin ≤ 463 ∧ 463 ≤ bank.plausibleMax := by decide +kernel

/-- A record of channel 7, which is not enabled. -/
def strayRecord : List Byte := ShotRecord.payload ⟨7, 0, 0, 9, 11000, 0, []⟩

/-- A measurement record of channel 3 with no reading and the given samples. -/
def unread (samples : List Int) : List Byte := recordOf 0 0 9 65535 samples

/-- Samples that end NO_B1, NO_B2 and EDGE under the entry of the small part. -/
def untimed : List (ShotOutcome × List Int) :=
  [(.noB1, List.replicate 64 0),
   (.noB2, List.replicate 24 0 ++ [50, 400] ++ List.replicate 38 0),
   (.edge, List.replicate 20 500 ++ List.replicate 44 600)]

/-- MEASURING, the front of the OPEN shell not yet at the ring. -/
def approaching : State := { measuring with tru.lengthCounter := 1000000 }

set_option maxRecDepth 4096 in
theorem witness_RejectedShotTouchesNoShell :
    (∀ s ∈ [linked, ready, parked, approaching, measuring],
      s.resetHeld = false ∧ s.ali.inLock = true) ∧
    (linked.scs.mode = .unconfigured ∧ ready.scs.mode = .standby ∧ parked.scs.mode = .parked ∧
      measuring.scs.mode = .measuring ∧ approaching.scs.mode = .measuring) ∧
    (checkFrame .aLink (carry 0x11 strayRecord) = .passed ⟨0x11, 0, strayRecord⟩ ∧
      slotOf (readShotRecord strayRecord).channel = .some 7 ∧ ready.enabled 7 = false ∧
      slotOf (readShotRecord (strayRecord.set 0 8)).channel = .none) ∧
    (checkFrame .aLink (carry 0x11 (recordOf 0 0 9 11000 [])) =
        .passed ⟨0x11, 0, recordOf 0 0 9 11000 []⟩ ∧
      slotOf (readShotRecord (recordOf 0 0 9 11000 [])).channel = .some 3 ∧
      ready.enabled 3 = true ∧ (readShotRecord (recordOf 0 0 9 11000 [])).sampleCount < 64) ∧
    (∀ samples ∈ echoes :: untimed.map (·.2),
      checkFrame .aLink (carry 0x11 (unread samples)) = .passed ⟨0x11, 0, unread samples⟩ ∧
      slotOf (readShotRecord (unread samples)).channel = .some 3 ∧
      (readShotRecord (unread samples)).sampleCount = 64 ∧
      (unread samples).length = 9 + 2 * 64 ∧ (readShotRecord (unread samples)).kind = 0 ∧
      20000 < (readShotRecord (unread samples)).temperature) ∧
    (parked.enabled 3 = true ∧ ready.assign = .noShell ∧ approaching.assign = .beforeHead 0 ∧
      measuring.assign = .assigned 0 2750) := by decide +kernel

set_option maxRecDepth 4096 in
/-- The clauses of a record that is assigned. -/
theorem witness_RejectedShotTouchesNoShell_assigned :
    (∀ x ∈ untimed, ∃ times, timeRecord (readShotRecord (unread x.2)).samples entry
      entry.measurementGates = .failed x.1 times) ∧
    timeRecord (readShotRecord (unread echoes)).samples entry entry.measurementGates =
      .timed 1563 2843 1280 ∧
    measuring.etu[(3 : Fin 8)].heldTemp = .none ∧
    (holding.etu[(3 : Fin 8)].heldTemp = .some 11000 ∧
      holding.etu[(3 : Fin 8)].holdAge < entry.holdLimit) ∧
    (computeWall entry (holding.velocityTable entry) (holding.rmeas 3 entry) bank.contraction 1280
      11000).wCold < { bank with plausibleMin := 464 }.plausibleMin := by
  refine ⟨?_, by decide +kernel⟩
  intro x hx
  have h : ∀ x ∈ untimed, (match timeRecord (readShotRecord (unread x.2)).samples entry
      entry.measurementGates with
      | .failed o _ => decide (o = x.1)
      | .timed _ _ _ => false) = true := by decide +kernel
  have := h x hx
  split at this
  · next o times e => exact ⟨times, by rw [e, of_decide_eq_true this]⟩
  · cases this

/-- A reference record with tag 7. -/
def referenceRecord : List Byte := recordOf 1 7 9 11000 echoes

/-- A reference record with tag 7 and no echo. -/
def untimedReference : List Byte := recordOf 1 7 9 11000 (List.replicate 64 0)

/-- Channel 3's request with tag 7 is SENT; its entry has the given Rnom. -/
def asked (rnom : Nat) : State :=
  { withRequest (.some ⟨7, .sent 50⟩) ready with
    tbs.active.channels := ready.tbs.active.channels.set 3 (.some { entry with rnom := rnom }) }

set_option maxRecDepth 4096 in
theorem witness_ReferenceRecordIsJudged :
    (checkFrame .aLink (carry 0x11 referenceRecord) = .passed ⟨0x11, 0, referenceRecord⟩ ∧
      slotOf (readShotRecord referenceRecord).channel = .some 3 ∧
      (readShotRecord referenceRecord).badLength referenceRecord.length = false ∧
      (readShotRecord referenceRecord).kind = 1 ∧ (readShotRecord referenceRecord).tag = 7) ∧
    (∀ rnom ∈ [1280, 1300, 1400], (asked rnom).resetHeld = false ∧ (asked rnom).ali.inLock = true ∧
      (asked rnom).scs.mode ≠ .unconfigured ∧
      enabledEntry (asked rnom).tbs.active.channels[(3 : Fin 8)] =
        .some { entry with rnom := rnom } ∧
      (asked rnom).rfs.channels[(3 : Fin 8)].request = .some ⟨7, .sent 50⟩ ∧
      timeRecord (readShotRecord referenceRecord).samples { entry with rnom := rnom }
        { entry with rnom := rnom }.referenceGates = .timed 1563 2843 1280) ∧
    (∀ rnom ∈ [1280, 1300], 1280 * 1000000 ≤ rnom * 1000000 + rnom * 20000 ∧
      rnom * 1000000 ≤ 1280 * 1000000 + rnom * 20000) ∧
    1280 * 1000000 + 1400 * 20000 < 1400 * 1000000 ∧
    ready.rfs.channels[(3 : Fin 8)].request = .some ⟨0, .queued⟩ ∧
    (checkFrame .aLink (carry 0x11 untimedReference) = .passed ⟨0x11, 0, untimedReference⟩ ∧
      (readShotRecord untimedReference).tag = 7 ∧
      timeRecord (readShotRecord untimedReference).samples { entry with rnom := 1280 }
        { entry with rnom := 1280 }.referenceGates = .failed .noB1 ⟨.none, .none, .none⟩) := by
  decide +kernel

/-- The cell example's shell: 65534 shots in one cell, none spilled, 50 beyond the map. -/
def crowded : Shell :=
  { newShell exampleBank 41 1 0 with
    map := List.replicate 3 (List.replicate 12 .empty) ++
      ((List.replicate 12 .empty).set 4 ⟨65534, .some 19800, .some 20400, 1317233400⟩ ::
        List.replicate 124 (List.replicate 12 .empty))
    accepted := 65584
    beyondMap := 50 }

theorem witness_AcceptedTotalIsAccountedFor :
    crowded.map.length = 128 ∧ (∀ row ∈ crowded.map, 4 < row.length) ∧
    crowded.accepted < 4294967295 ∧
    crowded.accepted = mapCount crowded.map + crowded.spill + crowded.beyondMap := by decide +kernel

theorem witness_VelocityStaysWithinItsTable :
    2 ≤ exampleVelocity.points.length ∧
    exampleVelocity.points.Pairwise (fun p q => p.temperature < q.temperature) ∧
    ∀ p ∈ exampleVelocity.points, 3000 ≤ p.velocity ∧ p.velocity ≤ 7000 := by decide +kernel

theorem witness_EccentricityIsRoundedOnce :
    ¬ (1 ≤ coveredSectors [] ∧ 0 ≤ coveredSectors []) ∧
    (1 ≤ coveredSectors exampleZone2 ∧ 3 ≤ coveredSectors exampleZone2) ∧
    ¬ (1 ≤ coveredSectors exampleZone2 ∧ 4 ≤ coveredSectors exampleZone2) ∧
    coveredSectors [⟨1, .some 0, .some 0, 0⟩] = 1 := by decide +kernel

/-! ### Witnesses: tables -/

/-- LOAD LINE's twenty bytes for the small part's line setup, in the order and widths of R130. -/
def lineBytes : List Byte :=
  [2, 0x04, 0xE2, 0, 3, 0, 0, 0x04, 0xE2, 0x01, 0x2C, 0x13, 0x88, 0, 0x78, 0, 0x64, 0, 0x4E, 0x20]

theorem test_load_line_reads_its_fields :
    lineOfFields (readFields lineSpecs lineBytes) = line := by decide +kernel

/-- LOAD BANK's thirty-four bytes for the examples' bank as bank 2, in the order and widths of R129. -/
def bankBytes : List Byte :=
  [2, 0, 7, 0, 0, 0x4E, 0x20, 0, 0, 0x07, 0xD0, 0, 0, 0x07, 0xD0, 0, 0, 0x13, 0x88, 0, 0, 0xEA, 0x60,
   0, 145, 0, 250, 12, 0, 180, 0, 20, 3, 3]

theorem test_load_bank_reads_its_fields :
    bankOfFields (readFields bankSpecs bankBytes) = exampleBank := by decide +kernel

/-- LOAD CHANNEL's forty-four bytes for the small part's entry as channel 3 with the given trim, in the
order and widths of R127. -/
def channelBytes (trimHigh trimLow : Byte) : List Byte :=
  [3, 1, 0, 20, 0, 10, 0, 100, 0, 16, 0, 30, 0, 80, 4, 128, 0, 20, 0, 10, 0, 16, 0, 30, 0, 80,
   0, 0, 0x05, 0x00, 0x4E, 0x20, 0, 0, 0xEA, 0x60, 0, trimHigh, trimLow, 0x05, 0x46, 2, 1, 2]

theorem test_load_channel_reads_its_fields :
    channelOfFields (readFields channelSpecs (channelBytes 0 0)) = entry ∧
    channelOfFields (readFields channelSpecs (channelBytes 0xEC 0x78)) = { entry with trim := -5000 } := by
  decide +kernel

/-- LOAD VELOCITY's bytes for a table of two points as table 0, at the ends of their ranges. -/
def velocityBytes : List Byte := [0, 2, 0, 0, 0x1B, 0x58, 0x4E, 0x20, 0x0B, 0xB8]

theorem test_load_velocity_reads_its_fields :
    velocityOfFields (readFields (velocitySpecs 2) velocityBytes) = ⟨[⟨0, 7000⟩, ⟨20000, 3000⟩]⟩ := by
  decide +kernel

/-- The first field that fails, for the four full forms on their argument bytes. -/
def failing (code : Byte) (args : List Byte) : Option Nat :=
  if code = 2 then firstFailure (channelTie (readFields channelSpecs args)) 1 channelSpecs
    (readFields channelSpecs args)
  else if code = 3 then
    firstFailure (velocityTie (readFields (velocitySpecs (argByte args 1)) args)) 1
      (velocitySpecs (argByte args 1)) (readFields (velocitySpecs (argByte args 1)) args)
  else if code = 4 then firstFailure (bankTie (readFields bankSpecs args)) 1 bankSpecs
    (readFields bankSpecs args)
  else firstFailure (fun _ => true) 1 lineSpecs (readFields lineSpecs args)

theorem witness_LoadReplacesTheStagedEntry :
    (∀ code args, (given ready code args).Waits ⟨0x5A, code, args⟩ []) ∧
    ready.tbs.activationPending = false ∧
    ((channelBytes 0xEC 0x78).length = 44 ∧ failing 2 (channelBytes 0xEC 0x78) = .none) ∧
    (2 ≤ velocityBytes.length ∧ velocityBytes.length = 2 + 4 * argByte velocityBytes 1 ∧
      failing 3 velocityBytes = .none) ∧
    (bankBytes.length = 34 ∧ failing 4 bankBytes = .none) ∧
    (lineBytes.length = 20 ∧ failing 5 lineBytes = .none) :=
  ⟨fun _ _ => waits_given _ _ _ (by decide +kernel) (by decide +kernel), by decide +kernel,
   by decide +kernel, by decide +kernel, by decide +kernel, by decide +kernel⟩

/-- The small part with an activation pending. -/
def waiting : State := { measuring with tbs.activationPending := true }

theorem witness_LoadsAreRefusedOrRemoveEntries :
    (∀ code args, (given waiting code args).Waits ⟨0x5A, code, args⟩ []) ∧
    waiting.tbs.activationPending = true ∧
    (∀ code args, (given ready code args).Waits ⟨0x5A, code, args⟩ []) ∧
    ready.tbs.activationPending = false ∧
    (channelBytes 0xEC 0x77).length = 44 ∧ failing 2 (channelBytes 0xEC 0x77) = .some 20 ∧
    failing 3 [0, 2, 0x4E, 0x20, 0x0B, 0xB8, 0x4E, 0x20, 0x0B, 0xB8] = .some 5 ∧
    failing 4 (bankBytes.set 0 4) = .some 1 ∧ failing 5 (lineBytes.set 0 3) = .some 1 ∧
    (7 : Byte).toNat ≤ 7 ∧ ¬ (8 : Byte).toNat ≤ 7 ∧ (3 : Byte).toNat ≤ 3 ∧ ¬ (4 : Byte).toNat ≤ 3 :=
  ⟨fun _ _ => waits_given _ _ _ (by decide +kernel) (by decide +kernel), by decide +kernel,
   fun _ _ => waits_given _ _ _ (by decide +kernel) (by decide +kernel), by decide +kernel,
   by decide +kernel, by decide +kernel, by decide +kernel, by decide +kernel, by decide +kernel,
   by decide, by decide, by decide, by decide⟩

theorem witness_TableFieldsReadBackAsLoaded :
    ((channelBytes 0xEC 0x78).length = 44 ∧ failing 2 (channelBytes 0xEC 0x78) = .none ∧
      100 ≤ natField (readFields channelSpecs (channelBytes 0xEC 0x78)) 18) ∧
    (2 ≤ velocityBytes.length ∧ velocityBytes.length = 2 + 4 * argByte velocityBytes 1 ∧
      failing 3 velocityBytes = .none) ∧
    (bankBytes.length = 34 ∧ failing 4 bankBytes = .none) ∧
    (lineBytes.length = 20 ∧ failing 5 lineBytes = .none) := by decide +kernel

theorem witness_ReadTableShowsAnEntry :
    (∀ set kind index, (given ready 0x06 [set, kind, index]).Waits ⟨0x5A, 0x06, [set, kind, index]⟩ []) ∧
    2 ≤ (2 : Byte).toNat ∧ (1 : Byte).toNat < 2 ∧ 4 ≤ (4 : Byte).toNat ∧ 8 ≤ (8 : Byte).toNat ∧
    (7 : Byte).toNat = (7 : Fin 8).val ∧ (3 : Byte).toNat = (3 : Fin 4).val :=
  ⟨fun _ _ _ => waits_given _ _ _ (by decide +kernel) (by decide +kernel), by decide, by decide,
   by decide, by decide, by decide, by decide⟩

theorem witness_ActivateIsCheckedAndMayWait :
    (∀ s ∈ [waiting, ready, measuring], ∀ code args,
      (given s code args).Waits ⟨0x5A, code, args⟩ []) ∧
    waiting.tbs.activationPending = true ∧ ready.tbs.activationPending = false ∧
    { tables with line := .none }.line = .none ∧
    (tables.line ≠ .none ∧ { tables with channels := Vector.replicate 8 .none }.line ≠ .none) ∧
    (∀ i : Fin 8, enabledEntry
      { tables with channels := Vector.replicate 8 .none }.channels[i] = .none) ∧
    (enabledEntry tables.channels[(3 : Fin 8)] = .some entry ∧
      (∀ v : Fin 4, entry.velocityTable = v.val →
        { tables with velocities := Vector.replicate 4 .none }.velocities[v] = .none) ∧
      ∀ j : Fin 8, j < 3 → enabledEntry tables.channels[j] = .none) ∧
    (measuring.tbs.activationPending = false ∧ measuring.tbs.staged = tables ∧
      measuring.gauging = true ∧ tables.velocities[(0 : Fin 4)] = .some exampleVelocity) := by
  refine ⟨?_, by decide +kernel, by decide +kernel, rfl, by decide +kernel, by decide +kernel,
    by decide +kernel, by decide +kernel⟩
  intro s hs code args
  refine waits_given _ _ _ ?_ ?_ <;> revert s <;> decide +kernel

theorem witness_ActivateAppliesTheStagedSet :
    (∀ s ∈ [linked, ready, parked], s.tbs.activationPending = false ∧
      s.tbs.staged.inconsistency = .none ∧ s.gauging = false) ∧ ready.RequestsQueued ∧
    (given linked 0x07 []).Waits ⟨0x5A, 0x07, []⟩ [] ∧
    (given ready 0x07 []).Waits ⟨0x5A, 0x07, []⟩ [] :=
  ⟨by decide +kernel, ready_RequestsQueued,
   waits_given _ _ _ (by decide +kernel) (by decide +kernel),
   waits_given _ _ _ (by decide +kernel) (by decide +kernel)⟩

/-! ### Witnesses: commands

What each statement asks of the state and the command besides that it waits. -/

theorem witness_SelectBankSetsTheBank :
    (∀ b, (given waiting 0x08 [b]).Waits ⟨0x5A, 0x08, [b]⟩ []) ∧
    (3 : Byte).toNat = (3 : Fin 4).val ∧ 4 ≤ (4 : Byte).toNat :=
  ⟨fun _ => waits_given _ _ _ (by decide +kernel) (by decide +kernel), by decide, by decide⟩

theorem witness_IdentifyAnswersEightBytes :
    (given ready 0x01 []).Waits ⟨0x5A, 0x01, []⟩ [] ∧
    (given ready 0x01 [0]).Waits ⟨0x5A, 0x01, [0]⟩ [] :=
  ⟨waits_given _ _ _ (by decide +kernel) (by decide +kernel),
   waits_given _ _ _ (by decide +kernel) (by decide +kernel)⟩

theorem witness_UnknownAndMisshapenCommandsChangeNothing :
    (∀ code args, (given ready code args).Waits ⟨0x5A, code, args⟩ []) ∧
    0x16 < (0x17 : Byte).toNat ∧ Command.lengthFits ⟨0x5A, 0x02, List.replicate 43 0⟩ = false ∧
    Command.lengthFits ⟨0x5A, 0x03, []⟩ = false ∧ Command.lengthFits ⟨0x5A, 0x15, [0, 0]⟩ = false ∧
    Command.lengthFits ⟨0x5A, 0x16, [0]⟩ = false :=
  ⟨fun _ _ => waits_given _ _ _ (by decide +kernel) (by decide +kernel), by decide, by decide +kernel,
   by decide +kernel, by decide +kernel, by decide +kernel⟩

/-- Four COMPLETE contexts, shells 7 to 10, the first being streamed. -/
def full : State :=
  { ready with
    scs.contexts := ((((Vector.replicate 4 .none).set 0 (.some (completeShell 7))).set 1
      (.some (completeShell 8))).set 2 (.some (completeShell 9))).set 3 (.some (completeShell 10))
    scs.nextSequence := 11
    rpb := .some ⟨7, .summary, 2, 0⟩ }
where
  /-- A COMPLETE shell of the small part's bank. -/
  completeShell (sequence : Nat) : Shell :=
    { newShell bank sequence 1 0 with phase := .complete 500 }

theorem full_SequencesOrdered : full.SequencesOrdered :=
  ⟨by decide +kernel, forall_shells (by decide +kernel), forall_pairs (by decide +kernel)⟩

/-- The part can be given any command. -/
theorem full_waits (code : Byte) (args : List Byte) :
    (given full code args).Waits ⟨0x5A, code, args⟩ [] :=
  waits_given _ _ _ (by decide +kernel) (by decide +kernel)

theorem witness_HeadEndIgnoredReclaimingOrMissed :
    ((∃ u, (given linked 0x09 []).HeadEndFrom .forceHead u) ∧ linked.scs.mode = .unconfigured) ∧
    ((∃ u, (given full 0x09 []).HeadEndFrom .forceHead u) ∧
      (∃ u, (departed true full).HeadEndFrom .debounceExpiry u) ∧ full.ModeAgrees) ∧
    (full.scs.mode ≠ .unconfigured ∧ (∀ j, full.holds Shell.isOpen j = false) ∧
      full.tbs.activationPending = false ∧ (∀ k : Fin 4, full.scs.contexts[k] ≠ .none) ∧
      full.holds (fun sh => sh.isComplete && !full.streamed sh) 0 = false ∧
      full.holds (fun sh => sh.isComplete && !full.streamed sh) 1 = true) ∧
    (∀ (k : Fin 4) (sh : Shell), full.scs.contexts[k] = .some sh →
      (sh.isComplete && !full.streamed sh) = true → k ≠ 1 → 8 < sh.sequence) ∧
    (full.scs.nextSequence ≠ 0 ∧ full.tbs.active.banks[full.tbs.selectedBank] ≠ .none) ∧
    ready.scs.contexts[(0 : Fin 4)] = .none ∧
    { ready with tbs.selectedBank := 3 }.tbs.active.banks[(3 : Fin 4)] = .none :=
  ⟨⟨headEndFrom_given _ (by decide +kernel) (by decide +kernel), by decide +kernel⟩,
   ⟨headEndFrom_given _ (by decide +kernel) (by decide +kernel),
    headEndFrom_departed _ (by decide +kernel) (by decide +kernel),
    by unfold State.ModeAgrees; decide +kernel⟩, by decide +kernel,
   forall_shells (by decide +kernel), by decide +kernel, by decide +kernel, by decide +kernel⟩

theorem witness_ParkAndUnparkActByMode :
    (∀ s ∈ [linked, ready, measuring, parking, parked], ∀ code,
      (given s code []).Waits ⟨0x5A, code, []⟩ [] ∧ (given s code []).ParkAgrees) ∧
    (linked.scs.mode = .unconfigured ∧ ready.scs.mode = .standby ∧ measuring.scs.mode = .measuring ∧
      parking.scs.mode = .parking ∧ parking.scs.parkRequest = true ∧ parked.scs.mode = .parked ∧
      parked.scs.parkRequest = true) ∧
    (given ready 0x0B []).NoneOwed := by
  refine ⟨?_, by decide +kernel, by unfold State.NoneOwed; decide +kernel⟩
  have h : ∀ s ∈ [linked, ready, measuring, parking, parked],
      s.resetHeld = false ∧ s.cmu.replies.length < 8 ∧
      (s.scs.drainTimer.isSome = true ↔ s.scs.mode = .parking) ∧
      (s.scs.mode = .parking ∨ s.scs.mode = .parked → s.scs.parkRequest = true) ∧
      (s.scs.mode = .unconfigured ∨ s.scs.mode = .standby → s.scs.parkRequest = false) := by
    decide +kernel
  exact fun s hs code => ⟨waits_given _ _ _ (h s hs).1 (h s hs).2.1, (h s hs).2.2⟩

theorem witness_ReportsAreFetchedAndReleased :
    (∀ code args, (given full code args).Waits ⟨0x5A, code, args⟩ []) ∧ full.SequencesOrdered ∧
    (1 < (2 : Byte).toNat ∧ 2 < (3 : Byte).toNat ∧ (1 : Byte).toNat ≤ 1 ∧ (2 : Byte).toNat ≤ 2) ∧
    full.rpb ≠ .none ∧ { full with rpb := .none }.rpb = .none ∧
    (∀ i, ready.holds Shell.isComplete i = false) ∧
    full.scs.contexts[(0 : Fin 4)] = .some (full.completeShell 7) ∧
    (∀ (j : Fin 4) (other : Shell), full.scs.contexts[j] = .some other →
      other.isComplete = true → j ≠ 0 → 7 < other.sequence) ∧
    three.holds (fun sh => sh.sequence == 3 && !sh.isComplete) 2 = true ∧
    (∀ (i : Fin 4) (sh : Shell), full.scs.contexts[i] = .some sh → sh.sequence ≠ 11) :=
  ⟨full_waits, full_SequencesOrdered, by decide, by decide +kernel, rfl, by decide +kernel,
   by decide +kernel, forall_shells (by decide +kernel), by decide +kernel,
   forall_shells (by decide +kernel)⟩

theorem witness_SnapshotIsFormedAndCleared :
    (given measuring 0x0F []).Waits ⟨0x5A, 0x0F, []⟩ [] ∧ measuring.openContext = .some 0 ∧
    ready.openContext = .none :=
  ⟨waits_given _ _ _ (by decide +kernel) (by decide +kernel), by decide +kernel, by decide +kernel⟩

/-- A captured record of 64 samples. -/
def captured : State :=
  { ready with ldu.capture :=
      .captured ⟨3, 0, 0, 9, 11000, 64, echoes⟩ .accepted ⟨.some 1563, .some 2843, .some 1280⟩ }

theorem witness_CaptureIsArmedAndRead :
    (∀ code args, (given captured code args).Waits ⟨0x5A, code, args⟩ []) ∧
    (8 ≤ (8 : Byte).toNat ∧ 3 ≤ (3 : Byte).toNat ∧ 2 ≤ (2 : Byte).toNat) ∧
    ((7 : Byte).toNat = (7 : Fin 8).val ∧ (2 : Byte).toNat ≤ 2 ∧ (1 : Byte).toNat ≤ 1) ∧
    (∀ r o t, ready.ldu.capture ≠ .captured r o t) ∧
    captured.ldu.capture =
      .captured ⟨3, 0, 0, 9, 11000, 64, echoes⟩ .accepted ⟨.some 1563, .some 2843, .some 1280⟩ ∧
    0 < (64 + 255) / 256 ∧ (64 + 255) / 256 ≤ 1 := by
  refine ⟨fun _ _ => waits_given _ _ _ (by decide +kernel) (by decide +kernel), by decide, by decide,
    ?_, rfl, by decide, by decide⟩
  have h : ready.ldu.capture = .idle := by decide +kernel
  intro r o t
  rw [h]
  exact fun h => by cases h

theorem witness_ReadEventsChangesNothing :
    (∀ args, (given ready 0x12 args).Waits ⟨0x5A, 0x12, args⟩ []) ∧ ([0] : List Byte) ≠ [] :=
  ⟨fun _ => waits_given _ _ _ (by decide +kernel) (by decide +kernel), by decide⟩

theorem witness_ClearEventsClearsNamedFlags :
    (∀ args, (given ready 0x13 args).Waits ⟨0x5A, 0x13, args⟩ []) ∧
    2 ^ 18 ≤ ((4 : Byte).toNat * 256 + (0 : Byte).toNat) * 256 + (0 : Byte).toNat ∧
    ((3 : Byte).toNat * 256 + (255 : Byte).toNat) * 256 + (255 : Byte).toNat < 2 ^ 18 :=
  ⟨fun _ => waits_given _ _ _ (by decide +kernel) (by decide +kernel), by decide, by decide⟩

theorem witness_SetEventMaskReplacesTheMask :
    (∀ args, (given ready 0x14 args).Waits ⟨0x5A, 0x14, args⟩ []) ∧
    2 ^ 18 ≤ ((4 : Byte).toNat * 256 + (0 : Byte).toNat) * 256 + (0 : Byte).toNat ∧
    ((3 : Byte).toNat * 256 + (255 : Byte).toNat) * 256 + (255 : Byte).toNat < 2 ^ 18 ∧
    (ready.evu.urgent.length ≤ 16 ∧ ready.evu.routine.length ≤ 16) :=
  ⟨fun _ => waits_given _ _ _ (by decide +kernel) (by decide +kernel), by decide, by decide,
   by decide +kernel⟩

theorem witness_ReadCountersAnswersThemAll :
    (∀ args, (given ready 0x15 args).Waits ⟨0x5A, 0x15, args⟩ []) ∧ 1 < (2 : Byte).toNat :=
  ⟨fun _ => waits_given _ _ _ (by decide +kernel) (by decide +kernel), by decide⟩

theorem witness_RestartKeepsTheTables :
    (∀ s ∈ [linked, ready, measuring, parking, parked], (given s 0x16 []).Waits ⟨0x5A, 0x16, []⟩ [] ∧
      s.rfs.tagCounter < 256) ∧
    (parked.intervalsRun = false ∧ parked.enabled 3 = true) := by
  refine ⟨fun s hs => ?_, by decide +kernel⟩
  have h : ∀ s ∈ [linked, ready, measuring, parking, parked],
      s.resetHeld = false ∧ s.cmu.replies.length < 8 ∧ s.rfs.tagCounter < 256 := by decide +kernel
  exact ⟨waits_given _ _ _ (h s hs).1 (h s hs).2.1, (h s hs).2.2⟩

/-! ### Worked examples, one command each -/

/-- A field of the next state a command gives. -/
def after {α : Type} (c : Instr) (s : State) (f : State → α) : Option α :=
  match exec c s with
  | .next t => .some (f t)
  | _ => .none

/-- "Counting the line" (chapter 4): one rising edge, µm per pulse 1250, and after the change to RISING
a falling edge, which is not counted. -/
theorem test_example_counted_edges :
    after (.pulseEdge true) { ready with tru.lengthCounter := 4811600 }
      (fun t => (t.tru.lengthCounter, t.currentLength)) = .some (4812850, 4812) ∧
    after (.pulseEdge false)
      { ready with
        tru.lengthCounter := 4815350, tru.pulseLevel := true
        tbs.active.line := .some { line with pulseEdge := .rising, umPerPulse := 2500 } }
      (·.tru.lengthCounter) = .some 4815350 := by decide +kernel

/-- "A flickering detector" (chapter 4): the line rises, and falls again after one mark. -/
theorem test_example_departure_and_abandonment :
    after (.shellDetectChange true) ready (·.tru.debounce) = .some (.some 3) ∧
    after (.shellDetectChange false)
      { ready with pins.shellDetect := true, tru.debounce := .some 2 }
      (fun t => (t.tru.debounce, t.counters.tru.changesAbandoned)) = .some (.none, 1) := by
  decide +kernel

/-- A departure with a count left, or one whose level has returned, is not taken (R62 step 2). -/
theorem test_debounce_with_a_count_left :
    after .debounceExpiry { departed true ready with tru.debounce := .some 1 }
      (fun t => (t.tru.detectorLevel, t.tru.debounce, t.scs.mode)) =
      .some (.inactive, .some 1, .standby) := by decide +kernel

/-- RESTART in PARKED: STANDBY, the request to park clear, the stopped counter reloaded, the request of
channel 3 issued anew with the next tag (R42, R144, R183). -/
theorem test_restart_out_of_parked :
    after .restart (given (parked.rfsChannel 3 fun r => { r with interval := .some 5 }) 0x16 [])
      (fun t => (t.scs.mode, t.scs.parkRequest, (t.ref 3).interval, (t.ref 3).request)) =
      .some (.standby, false, .some 60000, .some ⟨1, .queued⟩) := by decide +kernel

/-- A length advance that takes the last shell out of the ring applies the pending activation and leaves
MEASURING (R84, R136, R148). -/
theorem test_boundary_of_a_length_advance :
    after (.pulseEdge true) { reaching with tbs.activationPending := true }
      (fun t => (t.scs.mode, t.tbs.generation, (t.flag .shellComplete).latest,
        (t.flag .tailIrregular).count)) = .some (.standby, 2, .some 1, 1) := by decide +kernel

/-- The same example: at the mark that finds the timer at 0 the change is due, and it opens a shell. -/
theorem test_example_head_end_taken :
    (departed true ready).millisecond.pending = [.debounceExpiry] ∧
    after .debounceExpiry (departed true ready)
      (fun t => (t.tru.detectorLevel, t.tru.debounce, t.scs.mode, t.counters.tru.headEndsTaken)) =
      .some (.active, .none, .measuring, 1) := by decide +kernel

/-- A shell of the example of two shells across a gap (chapter 5). -/
def gapShell (sequence headMark : Nat) (phase : Phase) : Shell :=
  { newShell bank sequence 1 headMark with phase := phase }

/-- Shell 17 CLOSING and shell 18 OPEN, at a current length. -/
def gap (length : Nat) : State :=
  { ready with
    scs.mode := .measuring
    scs.nextSequence := 19
    scs.contexts := ((Vector.replicate 4 .none).set 0
      (.some (gapShell 17 1000 (.closing 7400 5000 8950)))).set 1
      (.some (gapShell 18 7900 (.opened 0)))
    tru.lengthCounter := length * 1000 }

theorem test_example_shots_across_a_gap :
    (gap 8600).assign = .assigned 0 6350 ∧ (gap 8650).assign = .beforeHead 1 ∧
    (gap 9150).assign = .assigned 1 0 := by decide +kernel

/-- The tail-end at 7400 gives shell 17 the completion length 8950. -/
theorem test_example_tail_end :
    after .forceTail
      (given { gap 7400 with
        scs.contexts := (Vector.replicate 4 .none).set 0
          (.some (gapShell 17 1000 (.opened 0))) } 0x0A [])
      (fun t => t.scs.contexts[0].map (·.phase)) = .some (.some (.closing 7400 5000 8950)) := by
  decide +kernel

/-- The 8950th millimetre completes shell 17 and leaves shell 18 OPEN. -/
theorem test_example_length_advance :
    after (.pulseEdge true) { gap 8949 with tru.lengthCounter := 8949000 }
      (fun t => t.scs.contexts[0].map (·.phase)) = .some (.some (.complete 7400)) := by decide +kernel

/-- "Exhaustion with an activation pending" (chapter 5) with the event mask of "One head-end, five
flags" (chapter 11), before the head-end at 55120. -/
def exhausted : State :=
  { ready with
    scs := ⟨((((Vector.replicate 4 .none).set 0 (.some (gapShell 30 0 (.complete 1)))).set 1
        (.some (gapShell 31 0 (.complete 1)))).set 2 (.some (gapShell 32 0 (.complete 1)))).set 3
        (.some (gapShell 33 0 (.opened 0))), 34, .measuring, false, .none⟩
    rpb := .some ⟨30, .full, 9, 4⟩
    tru.lengthCounter := 55120000
    tbs.generation := 6
    tbs.activationPending := true
    evu := ⟨(((((((Vector.replicate 18 .cleared).set 0 on).set 1 on).set 4 on).set 6 on).set 7 on).set
        5 ⟨true, 3, .some 33, true⟩), [], []⟩ }
where
  /-- Clear and enabled. -/
  on : FlagState := ⟨false, 0, .none, true⟩

theorem test_example_exhaustion :
    after .forceHead (given exhausted 0x09 [])
      (fun t => t.scs.contexts.toList.map fun o => o.map fun sh =>
        (sh.phase, sh.sequence, sh.irregular.code)) =
      .some [.some (.complete 1, 30, 0), .some (.opened 0, 34, 0), .some (.complete 1, 32, 0),
        .some (.complete 55120, 33, 3)] ∧
    after .forceHead (given exhausted 0x09 []) (fun t => (t.evu.urgent, t.evu.routine)) =
      .some ([⟨.reportLost, 1, .some 31⟩],
        [⟨.shellComplete, 1, .some 33⟩, ⟨.tailIrregular, 1, .some 33⟩]) ∧
    after .forceHead (given exhausted 0x09 [])
      (fun t => (t.flag .shellOpened, t.flag .tablesActivated, t.tbs.generation)) =
      .some (⟨true, 4, .some 34, true⟩, ⟨true, 1, .none, false⟩, 7) := by decide +kernel

/-- "A notice queue overrun" (chapter 11): CAPTURE_READY finds the routine queue full. -/
theorem test_example_notice_overrun :
    let s := { ready with
      evu.flags := ready.evu.flags.set 12 ⟨false, 0, .none, true⟩
      evu.routine := List.replicate 16 ⟨.linkFault, 1, .none⟩ }
    let t := s.raise .captureReady .none
    (t.flag .captureReady).count = 1 ∧ t.evu.routine.length = 16 ∧
    t.counters.evu.routineDropped = 1 ∧ t.attn = true := by decide +kernel

/-- "A full list" (chapter 6): the thirty-third run to commit overflows the list. -/
theorem test_example_full_list :
    let sh : Shell := { newShell exampleBank 41 1 0 with
      excursions := List.replicate 32 ⟨7, .thin, 18300, 18400, 17000, 0, 3⟩
      runs := (Vector.replicate 8 .none).set 5 (.some ⟨.thin, 18385, 18405, 17000, 0, 2, .no⟩) }
    let t := sh.accept (shotOf 5 exampleEntry exampleBank 18420 17000 false)
    t.excursions = sh.excursions ∧ t.overflow = 1 ∧ t.irregular.excursionsOverflowed = true ∧
    t.runs[(5 : Fin 8)].map (fun r => (r.startPos, r.endPos, r.shots)) = .some (18385, 18420, 3) := by
  decide +kernel

/-- "References during a shell" (chapter 2), with three channels and request 57 of channel 2 SENT. -/
def during : State :=
  { ready with
    scs.mode := .measuring
    tbs.active.channels := ((((Vector.replicate 8 .none).set 0 (.some entry)).set 1
      (.some entry)).set 2 (.some entry))
    ali.outQueue := []
    rfs := ⟨((((Vector.replicate 8 .off).set 0 (owing 4 .none)).set 1 (owing 4 .none)).set 2
      (owing 8 (.some ⟨57, .sent 0⟩))), 58, 0⟩ }
where
  /-- A referenced channel. -/
  owing (backlog : Nat) (q : Option Request) : RfsChannel :=
    ⟨.some ⟨1280, false⟩, backlog, .some 60000, q⟩

/-- The timeout of request 57: channel 0 issues 58, channel 1 is passed over, channel 2 issues 59. -/
theorem test_example_request_timeout :
    after (.referenceTimeout 2) during (fun t => (t.ali.outQueue, t.rfs.tagCounter)) =
      .some ([.request 0 58, .request 2 59], 60) ∧
    after (.referenceTimeout 2) during (fun t => (t.flag .referenceLost).count) = .some 1 := by
  decide +kernel

/-- "A pause without keep-reference" (chapter 2): the head-end out of PARKED raises the backlog to 12,
with REFERENCE_OVERDUE. -/
theorem test_example_leaving_parked :
    after .forceHead
      (given (parked.rfsChannel 3 fun r => { r with backlog := 0, request := .none }) 0x09 [])
      (fun t => ((t.ref 3).backlog, (t.flag .referenceOverdue).count, t.ali.outQueue.length)) =
      .some (12, 1, 2) := by decide +kernel

/-- IDENTIFY's eight bytes (R181): 0x49, 0x0208, 1, 8, 4, 4096. -/
theorem test_identify :
    after .identify (given ready 0x01 []) (·.cmu.replies) =
      .some [⟨0x5A, 0x01, .done, [0x49, 0x02, 0x08, 0x01, 0x08, 0x04, 0x10, 0x00]⟩] := by decide +kernel

/-- "A stalled M-link" (chapter 12): with eight replies waiting the Command Unit waits too. -/
theorem test_example_stalled_link :
    let s := { given ready 0x01 [] with cmu.replies := List.replicate 8 ⟨0, 1, .done, []⟩ }
    after .identify s (fun t => (t.cmu.commands.length, t.cmu.replies.length)) = .some (1, 8) := by
  decide +kernel

/-- A LOAD CHANNEL whose interval is 50 writes 100 (R131). -/
theorem test_example_short_interval :
    after .loadChannel
      (given ready 0x02 (((channelBytes 0 0).set 34 0).set 35 50))
      (fun t => (t.tbs.staged.channels[3]).map (·.refInterval)) = .some (.some 100) := by
  decide +kernel

/-- "Bringing up a first table set" (chapter 8): APPLIED, generation 1, STANDBY, backlog 8; with no
velocity table, reason 3 and the channel. -/
theorem test_example_first_activation :
    after .activate (given linked 0x07 [])
      (fun t => (t.cmu.replies, t.scs.mode, (t.ref 3).backlog)) =
      .some ([⟨0x5A, 0x07, .done, [1, 0, 0, 0, 1]⟩], .standby, 8) ∧
    after .activate
      (given { linked with tbs.staged.velocities := Vector.replicate 4 .none } 0x07 [])
      (·.cmu.replies) = .some [⟨0x5A, 0x07, .inconsistent, [3, 3]⟩] := by decide +kernel

set_option maxRecDepth 4096 in
/-- The measurement record of the small part is ACCEPTED and binned at 2750 mm: zone 11. -/
theorem test_accepted_record :
    after (.shotRecord (carry 0x11 (measurement 11000))) measuring
      (fun t => ((t.scs.contexts[0]).map (·.accepted), t.ldu.liveQueue.map (·.zone),
        t.mli.forwardQueue.length)) = .some (.some 1, [11], 1) := by decide +kernel

end Sys2Proof.Tests
end

section
/-! PROOFS. What a notice leaves of the counters, and the end of a shot record: its outcome kept and the
record offered to capture and forwarding (R9, R162, R178). -/

namespace Sys2Proof.Proofs

open Sys2Proof.Machine Sys2Proof.Laws

/-! ### Occurrences and the counters -/

/-- A notice offered changes the EVU and its two counters alone (R167). -/
theorem offerNotice_eq (n : Notice) (s : State) : s.offerNotice n =
    { s with
      evu := (s.offerNotice n).evu
      counters := { s.counters with evu := (s.offerNotice n).counters.evu } } := by
  unfold State.offerNotice
  repeat' split
  all_goals rfl

/-- An occurrence changes the EVU and its two counters alone (R166). -/
theorem raise_eq (f : Flag) (q : Option Nat) (s : State) : s.raise f q =
    { s with
      evu := (s.raise f q).evu
      counters := { s.counters with evu := (s.raise f q).counters.evu } } := by
  unfold State.raise
  dsimp only
  split
  · rw [offerNotice_eq]
  · rfl

theorem raise_counters (f : Flag) (q : Option Nat) (s : State) :
    (s.raise f q).counters = { s.counters with evu := (s.raise f q).counters.evu } :=
  congrArg State.counters (raise_eq f q s)

@[simp] theorem raise_counters_aLink (f : Flag) (q : Option Nat) (s : State) :
    (s.raise f q).counters.aLink = s.counters.aLink := by rw [raise_counters]

@[simp] theorem raise_counters_mLink (f : Flag) (q : Option Nat) (s : State) :
    (s.raise f q).counters.mLink = s.counters.mLink := by rw [raise_counters]

@[simp] theorem raise_counters_channels (f : Flag) (q : Option Nat) (s : State) :
    (s.raise f q).counters.channels = s.counters.channels := by rw [raise_counters]

@[simp] theorem raise_counters_scs (f : Flag) (q : Option Nat) (s : State) :
    (s.raise f q).counters.scs = s.counters.scs := by rw [raise_counters]

@[simp] theorem raise_counters_tbs (f : Flag) (q : Option Nat) (s : State) :
    (s.raise f q).counters.tbs = s.counters.tbs := by rw [raise_counters]

@[simp] theorem raise_counters_ldu (f : Flag) (q : Option Nat) (s : State) :
    (s.raise f q).counters.ldu = s.counters.ldu := by rw [raise_counters]

theorem raise_flag_same (f : Flag) (q : Option Nat) (s : State) :
    (s.raise f q).flag f = (s.flag f).occur q := by rw [raise_flag, if_pos rfl]

theorem raise_flag_other {f g : Flag} (h : g ≠ f) (q : Option Nat) (s : State) :
    (s.raise f q).flag g = s.flag g := by rw [raise_flag, if_neg h]

/-! ### The offer to capture -/

/-- The target of capture admits a record of channel `c` (R162). -/
def Targets (capture : Capture) (c : Fin 8) (r : ShotRecord) (o : ShotOutcome) : Prop :=
  ∃ filter condition, capture = .armed c filter condition ∧
    (filter = .any ∨ filter = .measure ∧ r.kind = 0 ∨ filter = .reference ∧ r.kind = 1) ∧
    (condition = .next ∨ o ≠ .accepted ∧ o ≠ .referenceAccepted)

theorem rejected_iff (o : ShotOutcome) :
    o.rejected = true ↔ o ≠ .accepted ∧ o ≠ .referenceAccepted := by
  cases o <;> simp [ShotOutcome.rejected]

theorem kindFilter_admits_iff (filter : KindFilter) (kind : Nat) : filter.admits kind = true ↔
    filter = .any ∨ filter = .measure ∧ kind = 0 ∨ filter = .reference ∧ kind = 1 := by
  cases filter <;> simp [KindFilter.admits]

theorem condition_admits_iff (condition : Condition) (o : ShotOutcome) :
    condition.admits o = true ↔
      condition = .next ∨ o ≠ .accepted ∧ o ≠ .referenceAccepted := by
  cases condition <;> simp [Condition.admits, rejected_iff]

/-- What an armed capture asks of a record is what R162 asks. -/
theorem targets_armed_iff (target c : Fin 8) (filter : KindFilter) (condition : Condition)
    (r : ShotRecord) (o : ShotOutcome) :
    Targets (.armed target filter condition) c r o ↔
      (target == c && filter.admits r.kind && condition.admits o) = true := by
  simp only [Targets, Bool.and_eq_true, beq_iff_eq, kindFilter_admits_iff, condition_admits_iff]
  constructor
  · rintro ⟨_, _, h, hf, hc⟩
    cases h
    exact ⟨⟨rfl, hf⟩, hc⟩
  · rintro ⟨⟨rfl, hf⟩, hc⟩
    exact ⟨_, _, rfl, hf, hc⟩

/-- The state with a record captured (R162). -/
def captured (r : ShotRecord) (o : ShotOutcome) (times : EchoTimes) (s : State) : State :=
  (({ s with ldu.capture := .captured r o times } : State).tally fun k =>
    { k with ldu.capturesTaken := inc32 k.ldu.capturesTaken }).raise .captureReady .none

theorem offerCapture_taken {s : State} {c : Fin 8} {r : ShotRecord} {o : ShotOutcome}
    (h : Targets s.ldu.capture c r o) (times : EchoTimes) :
    s.offerCapture c r o times = captured r o times s := by
  have armed := h
  obtain ⟨filter, condition, e, -, -⟩ := armed
  rw [e, targets_armed_iff] at h
  simp only [State.offerCapture, e, h, if_true]
  rfl

theorem offerCapture_left {s : State} {c : Fin 8} {r : ShotRecord} {o : ShotOutcome}
    (h : ¬ Targets s.ldu.capture c r o) (times : EchoTimes) :
    s.offerCapture c r o times = s := by
  unfold State.offerCapture
  split
  · next e => rw [e, targets_armed_iff] at h; rw [if_neg h]
  · rfl

/-- The offer to capture changes the capture, the count of captures and CAPTURE_READY, with its notice;
nothing else. -/
theorem offerCapture_frame (c : Fin 8) (r : ShotRecord) (o : ShotOutcome) (times : EchoTimes)
    (s : State) :
    let t := s.offerCapture c r o times
    t.ldu = { s.ldu with capture := t.ldu.capture } ∧
    t.counters = { s.counters with ldu := t.counters.ldu, evu := t.counters.evu } ∧
    ∀ g, g ≠ .captureReady → t.flag g = s.flag g := by
  by_cases h : Targets s.ldu.capture c r o
  · rw [offerCapture_taken h]
    refine ⟨by simp [captured], ?_, fun g hg => ?_⟩
    · rw [captured, raise_counters]; rfl
    · rw [captured, raise_flag_other hg]; rfl
  · rw [offerCapture_left h]
    exact ⟨rfl, rfl, fun _ _ => rfl⟩

/-! ### The offer to forwarding -/

/-- The channel's forward mode takes a record of this outcome (R178). -/
def Forwards (entry : Option ChannelEntry) (o : ShotOutcome) : Prop :=
  ∃ e, entry = .some e ∧
    (e.forward = .all ∨ e.forward = .rejected ∧ o ≠ .accepted ∧ o ≠ .referenceAccepted)

theorem forwardMode_takes_iff (m : ForwardMode) (o : ShotOutcome) : m.takes o = true ↔
    m = .all ∨ m = .rejected ∧ o ≠ .accepted ∧ o ≠ .referenceAccepted := by
  cases m <;> simp [ForwardMode.takes, rejected_iff]

theorem forwards_iff (entry : Option ChannelEntry) (o : ShotOutcome) :
    Forwards entry o ↔ (entry.any fun e => e.forward.takes o) = true := by
  cases entry <;> simp [Forwards, forwardMode_takes_iff]

/-- A record its channel forwards joins a queue with a place. -/
theorem offerForward_joins {s : State} {c : Fin 8} {o : ShotOutcome}
    (h : Forwards s.tbs.active.channels[c] o) (hq : s.mli.forwardQueue.length < 16) (r : ShotRecord) :
    s.offerForward c r o =
      { s with mli.forwardQueue := s.mli.forwardQueue ++ [⟨o, r.payload⟩] } := by
  rw [forwards_iff] at h
  simp only [State.offerForward, State.entry, h, if_true, offer, Config.forwardPlaces, hq]

/-- A record its channel forwards is dropped and counted at a full queue. -/
theorem offerForward_drops {s : State} {c : Fin 8} {o : ShotOutcome}
    (h : Forwards s.tbs.active.channels[c] o) (hq : 16 ≤ s.mli.forwardQueue.length)
    (r : ShotRecord) :
    s.offerForward c r o = s.tally fun k =>
      { k with mLink.forwardedDropped := inc32 k.mLink.forwardedDropped } := by
  rw [forwards_iff] at h
  simp only [State.offerForward, State.entry, h, if_true, offer, Config.forwardPlaces,
    Nat.not_lt.mpr hq, if_false]

theorem offerForward_left {s : State} {c : Fin 8} {o : ShotOutcome}
    (h : ¬ Forwards s.tbs.active.channels[c] o) (r : ShotRecord) : s.offerForward c r o = s := by
  rw [forwards_iff] at h
  simp only [State.offerForward, State.entry, h]
  rfl

/-- The offer to forwarding changes the forward queue and its count of dropped records; nothing else. -/
theorem offerForward_frame (c : Fin 8) (r : ShotRecord) (o : ShotOutcome) (s : State) :
    let t := s.offerForward c r o
    t.mli = { s.mli with forwardQueue := t.mli.forwardQueue } ∧
    t.counters = { s.counters with mLink.forwardedDropped := t.counters.mLink.forwardedDropped } := by
  by_cases h : Forwards s.tbs.active.channels[c] o
  · by_cases hq : s.mli.forwardQueue.length < 16
    · rw [offerForward_joins h hq]; exact ⟨rfl, rfl⟩
    · rw [offerForward_drops h (Nat.not_lt.mp hq)]; exact ⟨rfl, rfl⟩
  · rw [offerForward_left h]; exact ⟨rfl, rfl⟩

/-! ### The final outcome -/

/-- Two states that agree in all that the two offers read and change. -/
structure SameOffer (s t : State) : Prop where
  capture : t.ldu.capture = s.ldu.capture
  flag : t.flag .captureReady = s.flag .captureReady
  taken : t.counters.ldu.capturesTaken = s.counters.ldu.capturesTaken
  channels : t.tbs.active.channels = s.tbs.active.channels
  queue : t.mli.forwardQueue = s.mli.forwardQueue
  dropped : t.counters.mLink.forwardedDropped = s.counters.mLink.forwardedDropped

/-- An offer reads the same between states that agree in what it reads and changes. -/
theorem offered_congr {s s' t t' : State} {c : Fin 8} {r : ShotRecord} {o : ShotOutcome}
    {times : EchoTimes} (hs : SameOffer s s') (ht : SameOffer t t')
    (h : s'.Offered t c r o times) : s.Offered t' c r o times := by
  unfold State.Offered at h ⊢
  simp only [hs.capture, hs.flag, hs.taken, hs.channels, hs.queue, hs.dropped] at h
  simpa only [ht.capture, ht.flag, ht.taken, ht.queue, ht.dropped] using h

/-- A record offered to capture and then to forwarding was offered as R162 and R178 say. -/
theorem offer_offered (c : Fin 8) (r : ShotRecord) (o : ShotOutcome) (times : EchoTimes) (s : State) :
    s.Offered ((s.offerCapture c r o times).offerForward c r o) c r o times := by
  generalize hu : s.offerCapture c r o times = u
  have channels : u.tbs.active.channels[c] = s.tbs.active.channels[c] := by simp [← hu]
  have queue : u.mli.forwardQueue = s.mli.forwardQueue := by simp [← hu]
  have dropped : u.counters.mLink.forwardedDropped = s.counters.mLink.forwardedDropped := by
    rw [← hu, (offerCapture_frame c r o times s).2.1]
  have flag : (u.offerForward c r o).flag .captureReady = u.flag .captureReady :=
    flag_congr (by simp) _
  have taken : (u.offerForward c r o).counters.ldu = u.counters.ldu := by
    rw [(offerForward_frame c r o u).2]
  unfold State.Offered
  dsimp only
  rw [flag, taken, offerForward_ldu, ← queue, ← dropped, ← channels]
  refine ⟨fun h => ?_, fun h => ?_, fun h hq => ?_, fun h hq => ?_, fun h => ?_⟩
  · rw [offerCapture_taken h] at hu
    subst hu
    exact ⟨by simp [captured], raise_flag_same _ _ _, by simp [captured, State.tally]⟩
  · rw [offerCapture_left h] at hu
    subst hu
    exact ⟨rfl, rfl, rfl⟩
  · rw [offerForward_joins h hq]; exact ⟨rfl, rfl⟩
  · rw [offerForward_drops h hq]; exact ⟨rfl, rfl⟩
  · rw [offerForward_left h]; exact ⟨rfl, rfl⟩

/-- A record's final outcome changes what the two offers change, and its channel's last outcome. -/
theorem finish_frame (c : Fin 8) (r : ShotRecord) (o : ShotOutcome) (times : EchoTimes) (s : State) :
    let t := s.finish c r o times
    t.etu = s.etu.set c { s.etu[c] with lastOutcome := .some o } ∧
    t.ldu = { s.ldu with capture := t.ldu.capture } ∧
    t.mli = { s.mli with forwardQueue := t.mli.forwardQueue } ∧
    t.counters = { s.counters with
      mLink.forwardedDropped := t.counters.mLink.forwardedDropped
      ldu := t.counters.ldu
      evu := t.counters.evu } ∧
    ∀ g, g ≠ .captureReady → t.flag g = s.flag g := by
  intro t
  let u := s.etuChannel c fun e => { e with lastOutcome := .some o }
  obtain ⟨ldu, counters, flag⟩ := offerCapture_frame c r o times u
  obtain ⟨mli, tally⟩ := offerForward_frame c r o (u.offerCapture c r o times)
  have ht : t = (u.offerCapture c r o times).offerForward c r o := rfl
  refine ⟨?_, ?_, ?_, ?_, fun g hg => ?_⟩
  · rw [ht, offerForward_etu, offerCapture_etu]; rfl
  · rw [ht, offerForward_ldu]; exact ldu
  · rw [offerCapture_mli] at mli; exact mli
  · rw [ht, tally, counters]; rfl
  · exact (flag_congr (by rw [ht, offerForward_evu]) g).trans (flag g hg)

/-- The record whose outcome became final was offered (R9). -/
theorem finish_offered {s u : State} (h : SameOffer s u) (c : Fin 8) (r : ShotRecord)
    (o : ShotOutcome) (times : EchoTimes) : s.Offered (u.finish c r o times) c r o times := by
  refine offered_congr (s' := u.etuChannel c fun e => { e with lastOutcome := .some o })
    (t := u.finish c r o times) ?_ ⟨rfl, rfl, rfl, rfl, rfl, rfl⟩ (offer_offered c r o times _)
  exact ⟨h.capture, h.flag, h.taken, h.channels, h.queue, h.dropped⟩

end Sys2Proof.Proofs
end

section
/-! PROOFS. A shot record taken by the part (R1, R3): the state while one record is worked, the steps of
validation, and how a record ends. -/

namespace Sys2Proof.Proofs

open Sys2Proof.Machine Sys2Proof.Laws

/-! ### The state while a record is worked -/

/-- The state `s` with one more frame received on the A-link and, for a record of channel `c`, with the
channel's place in the ETU, its counters, the contexts and the count of unassigned shots as given:
everything that the working of a measurement record changes before its outcome. -/
def worked (s : State) (c : Fin 8) (etu : EtuChannel) (channel : ChannelCounters)
    (contexts : Vector (Option Shell) 4) (unassigned : Nat) : State :=
  { s with
    etu := s.etu.set c etu
    scs := { s.scs with contexts := contexts }
    counters :=
      { s.counters with
        aLink := { s.counters.aLink with framesReceived := inc32 s.counters.aLink.framesReceived }
        channels := s.counters.channels.set c channel
        scs := { s.counters.scs with unassignedShots := unassigned } } }

section
variable (s : State) (c : Fin 8) (etu : EtuChannel) (channel : ChannelCounters)
  (contexts : Vector (Option Shell) 4) (unassigned : Nat)

@[simp] theorem worked_rfs : (worked s c etu channel contexts unassigned).rfs = s.rfs := rfl
@[simp] theorem worked_tbs : (worked s c etu channel contexts unassigned).tbs = s.tbs := rfl
@[simp] theorem worked_ref (d : Fin 8) :
    (worked s c etu channel contexts unassigned).ref d = s.ref d := rfl
@[simp] theorem worked_mode :
    (worked s c etu channel contexts unassigned).scs.mode = s.scs.mode := rfl
@[simp] theorem worked_contexts :
    (worked s c etu channel contexts unassigned).scs.contexts = contexts := rfl
@[simp] theorem worked_entry (d : Fin 8) :
    (worked s c etu channel contexts unassigned).entry d = s.entry d := rfl
@[simp] theorem worked_velocityTable (e : ChannelEntry) :
    (worked s c etu channel contexts unassigned).velocityTable e = s.velocityTable e := rfl
@[simp] theorem worked_rmeas (d : Fin 8) (e : ChannelEntry) :
    (worked s c etu channel contexts unassigned).rmeas d e = s.rmeas d e := rfl
@[simp] theorem worked_matchesRequest (d : Fin 8) (r : ShotRecord) :
    (worked s c etu channel contexts unassigned).matchesRequest d r = s.matchesRequest d r := rfl

@[simp] theorem worked_etu_self : (worked s c etu channel contexts unassigned).etu[c] = etu := by
  simp [worked]

@[simp] theorem worked_etuChannel (f : EtuChannel → EtuChannel) :
    (worked s c etu channel contexts unassigned).etuChannel c f =
      worked s c (f etu) channel contexts unassigned := by
  simp [worked, State.etuChannel]

@[simp] theorem worked_keepSequence (r : ShotRecord) :
    (worked s c etu channel contexts unassigned).keepSequence c r =
      worked s c { etu with prevSeq := .some r.sequence } channel contexts unassigned :=
  worked_etuChannel ..

@[simp] theorem worked_tallyChannel (f : ChannelCounters → ChannelCounters) :
    (worked s c etu channel contexts unassigned).tallyChannel c f =
      worked s c etu (f channel) contexts unassigned := by
  simp [worked, State.tallyChannel, State.tally]

@[simp] theorem worked_unassigned :
    ((worked s c etu channel contexts unassigned).tally fun k =>
      { k with scs.unassignedShots := inc32 k.scs.unassignedShots }) =
      worked s c etu channel contexts (inc32 unassigned) := rfl

/-- A context that holds a shell has it changed. -/
theorem worked_shellAt {i : Fin 4} {sh : Shell} (h : contexts[i] = .some sh) (f : Shell → Shell) :
    (worked s c etu channel contexts unassigned).shellAt i f =
      worked s c etu channel (contexts.set i (.some (f sh))) unassigned := by
  simp [worked, State.shellAt] at h ⊢
  rw [h]
  rfl

theorem worked_sameOffer : SameOffer s (worked s c etu channel contexts unassigned) :=
  ⟨rfl, rfl, rfl, rfl, rfl, rfl⟩

/-- The assignment reads the contexts, the length and the line setup alone (R85). -/
theorem assign_congr {a b : State} (hs : a.scs.contexts = b.scs.contexts) (ht : a.tru = b.tru)
    (hb : a.tbs = b.tbs) : a.assign = b.assign := by
  have sequence : a.sequenceAt = b.sequenceAt := by funext i; simp only [State.sequenceAt, hs]
  have lowest : ∀ l, a.lowest l = b.lowest l := by
    intro l
    induction l with
    | nil => rfl
    | cons i l ih => rw [State.lowest, State.lowest, ih, sequence]
  have oldest : ∀ p, a.oldest p = b.oldest p := fun p => by
    have holds : a.holds p = b.holds p := by funext i; simp only [State.holds, hs]
    rw [State.oldest, State.oldest, lowest, holds]
  have length : a.currentLength = b.currentLength := by simp only [State.currentLength, ht]
  have offset : a.lineField (·.ringOffset) = b.lineField (·.ringOffset) := by
    simp only [State.lineField, State.line, hb]
  have judge : a.judge = b.judge := by
    funext i
    have position : a.positionIn i = b.positionIn i := by
      simp only [State.positionIn, length, offset, hs]
    rw [State.judge, State.judge, position]
  rw [State.assign, State.assign, State.openContext, State.openContext, oldest, oldest, judge,
    length, offset]

@[simp] theorem worked_assign :
    (worked s c etu channel s.scs.contexts unassigned).assign = s.assign :=
  assign_congr rfl rfl rfl

end

/-- A frame received, before anything else is worked. -/
theorem received_eq_worked (s : State) (c : Fin 8) : s.tally (countReceived .aLink) =
    worked s c s.etu[c] s.counters.channels[c] s.scs.contexts s.counters.scs.unassignedShots := by
  simp [worked, State.tally, countReceived]

/-! ### From the frame to the record -/

/-- A good SHOT RECORD frame on a link in lock reaches the ETU. -/
theorem exec_shotRecord {bytes : List Byte} {f : Frame} {s : State} (hr : s.resetHeld = false)
    (hl : s.ali.inLock = true) (hf : checkFrame .aLink bytes = .passed f) (hk : f.kind = 0x11) :
    exec (.shotRecord bytes) s =
      .next (s.reportDrained ((s.tally (countReceived .aLink)).takeRecord f.payload)) := by
  show Host.Outcome.next (s.event _) = _
  rw [event_live hr]
  simp only [State.receive, State.linkInLock, hl, if_true, hf, hk]

/-- A record that leaves the references, the mode and the tables brings no drained report. -/
theorem exec_shotRecord_of {bytes : List Byte} {f : Frame} {s t : State} (hr : s.resetHeld = false)
    (hl : s.ali.inLock = true) (hf : checkFrame .aLink bytes = .passed f) (hk : f.kind = 0x11)
    (ht : (s.tally (countReceived .aLink)).takeRecord f.payload = t)
    (hm : t.scs.mode = s.scs.mode) (hrfs : t.rfs = s.rfs) (htbs : t.tbs = s.tbs) :
    exec (.shotRecord bytes) s = .next t := by
  rw [exec_shotRecord hr hl hf hk, ht, reportDrained_same hm (by rw [hrfs]) (by rw [htbs])]

theorem badLength_iff (r : ShotRecord) (n : Nat) : r.badLength n = true ↔
    r.sampleCount < 64 ∨ 4096 < r.sampleCount ∨ n ≠ 9 + 2 * r.sampleCount ∨ 1 < r.kind := by
  simp [ShotRecord.badLength, or_assoc]

/-- The missing shots of R6, as a natural number. -/
theorem sequenceGap_eq (previous : Option Nat) (sequence : Nat) : sequenceGap previous sequence =
    match previous with
    | .none => 0
    | .some p => ((sequence + 65536 - p % 65536) % 65536) - 1 := by
  cases previous with
  | none => rfl
  | some p => simp only [sequenceGap]; omega

theorem enabled_of_entry {s : State} {c : Fin 8} {e : ChannelEntry}
    (h : enabledEntry s.tbs.active.channels[c] = .some e) : s.enabled c = true := by
  simp only [State.enabled, State.entry, h, Option.isSome_some]

theorem entry_of_enabled {s : State} {c : Fin 8} (h : s.enabled c = true) :
    ∃ e, enabledEntry (s.entry c) = .some e := Option.isSome_iff_exists.mp h

/-! ### The steps of validation (R3) -/

/-- Step 1: no slot, or one not enabled outside UNCONFIGURED. -/
theorem takeRecord_unknown {payload : List Byte} {s : State}
    (h : ∀ c, slotOf (readShotRecord payload).channel = .some c →
      s.scs.mode ≠ .unconfigured ∧ s.enabled c = false) :
    s.takeRecord payload = s.dropUnknownChannel := by
  unfold State.takeRecord
  cases hc : slotOf (readShotRecord payload).channel with
  | none => simp [hc]
  | some c =>
    obtain ⟨hm, he⟩ := h c hc
    have he : enabledEntry (s.entry c) = .none := by
      simpa [State.enabled] using he
    simp [hc, hm, he]

/-- Step 2: a wrong length. -/
theorem takeRecord_badLength {payload : List Byte} {s : State} {c : Fin 8}
    (hc : slotOf (readShotRecord payload).channel = .some c)
    (he : s.scs.mode = .unconfigured ∨ s.enabled c = true)
    (hb : (readShotRecord payload).badLength payload.length = true) :
    s.takeRecord payload = s.dropBadLength c := by
  by_cases hm : s.scs.mode = .unconfigured
  · simp [State.takeRecord, hc, hm, hb]
  · obtain ⟨e, he⟩ := entry_of_enabled (he.resolve_left hm)
    simp [State.takeRecord, hc, hm, he, hb]

/-- Step 3: the mode takes no such record (R8). -/
theorem takeRecord_modeDrop {payload : List Byte} {s : State} {c : Fin 8} {o : ShotOutcome}
    (hc : slotOf (readShotRecord payload).channel = .some c)
    (hb : (readShotRecord payload).badLength payload.length = false)
    (hm : s.scs.mode = .unconfigured ∧ o = .unconfigured ∨
      s.scs.mode = .parked ∧ s.enabled c = true ∧ (readShotRecord payload).kind = 0 ∧ o = .parked) :
    s.takeRecord payload = s.dropForMode c (readShotRecord payload) o := by
  rcases hm with ⟨hm, rfl⟩ | ⟨hm, he, hk, rfl⟩
  · simp [State.takeRecord, hc, hm, hb]
  · obtain ⟨e, he⟩ := entry_of_enabled he
    simp [State.takeRecord, hc, hm, he, hb, hk]

/-- A record of an enabled channel that passes the three steps. -/
theorem takeRecord_passes {payload : List Byte} {s : State} {c : Fin 8} {e : ChannelEntry}
    (hc : slotOf (readShotRecord payload).channel = .some c)
    (he : enabledEntry s.tbs.active.channels[c] = .some e)
    (hb : (readShotRecord payload).badLength payload.length = false)
    (hu : s.scs.mode ≠ .unconfigured)
    (hp : s.scs.mode ≠ .parked ∨ (readShotRecord payload).kind ≠ 0) :
    s.takeRecord payload = s.passRecord c e (readShotRecord payload) := by
  have he : enabledEntry (s.entry c) = .some e := he
  have hp : ¬ (s.scs.mode = .parked ∧ (readShotRecord payload).kind = 0) := by tauto
  simp only [State.takeRecord, hc, hu, if_false, he, hb, hp, Bool.false_eq_true]

/-! ### A record that ends -/

/-- `t` is `s` after a record of channel `c` whose outcome is `o`, with the channel's place in the ETU,
its counters, the contexts and the count of unassigned shots as given: the record was offered, and
nothing else changed (R9). -/
def RecordEnds (s t : State) (c : Fin 8) (r : ShotRecord) (etu : EtuChannel)
    (channel : ChannelCounters) (contexts : Vector (Option Shell) 4) (unassigned : Nat)
    (o : ShotOutcome) (times : EchoTimes) : Prop :=
  s.Offered t c r o times ∧
  t.scs = { s.scs with contexts := contexts } ∧
  t.etu = s.etu.set c { etu with prevSeq := .some r.sequence, lastOutcome := .some o } ∧
  t.counters.channels = s.counters.channels.set c channel ∧
  t.counters.aLink =
    { s.counters.aLink with framesReceived := inc32 s.counters.aLink.framesReceived } ∧
  t.counters.scs = { s.counters.scs with unassignedShots := unassigned } ∧
  t.ldu = { s.ldu with capture := t.ldu.capture } ∧
  t.mli = { s.mli with forwardQueue := t.mli.forwardQueue } ∧
  (∀ g, g ≠ .captureReady → t.flag g = s.flag g) ∧ t.rfs = s.rfs ∧ t.tru = s.tru ∧
  t.tbs = s.tbs ∧ t.ali = s.ali ∧ t.rpb = s.rpb ∧ t.cmu = s.cmu ∧ t.pins = s.pins

/-- A record worked to an outcome ends so. -/
theorem recordEnds_finish (s : State) (c : Fin 8) (r : ShotRecord) (etu : EtuChannel)
    (channel : ChannelCounters) (contexts : Vector (Option Shell) 4) (unassigned : Nat)
    (o : ShotOutcome) (times : EchoTimes) :
    RecordEnds s
      ((worked s c { etu with prevSeq := .some r.sequence } channel contexts unassigned).finish
        c r o times)
      c r etu channel contexts unassigned o times := by
  generalize hu : worked s c { etu with prevSeq := .some r.sequence } channel contexts unassigned = u
  obtain ⟨hetu, hldu, hmli, hcounters, hflag⟩ := finish_frame c r o times u
  refine ⟨finish_offered (hu ▸ worked_sameOffer ..) c r o times, ?_, ?_, ?_, ?_, ?_, ?_, ?_,
    fun g hg => ?_, ?_, ?_, ?_, ?_, ?_, ?_, ?_⟩
  · rw [finish_scs, ← hu]; rfl
  · rw [hetu, ← hu]; simp [worked]
  · rw [hcounters, ← hu]; rfl
  · rw [hcounters, ← hu]; rfl
  · rw [hcounters, ← hu]; rfl
  · rw [hldu, ← hu]; rfl
  · rw [hmli, ← hu]; rfl
  · rw [hflag g hg, ← hu]; rfl
  · rw [finish_rfs, ← hu]; rfl
  · rw [finish_tru, ← hu]; rfl
  · rw [finish_tbs, ← hu]; rfl
  · rw [finish_ali, ← hu]; rfl
  · rw [finish_rpb, ← hu]; rfl
  · rw [finish_cmu, ← hu]; rfl
  · rw [finish_pins, ← hu]; rfl

end Sys2Proof.Proofs
end

section
/-! PROOFS. The working of a measurement record that passed validation, stage by stage (R10). -/

namespace Sys2Proof.Proofs

open Sys2Proof.Machine Sys2Proof.Laws

/-! ### The temperature (R19, R20) -/

theorem validReading_iff (t : Nat) : validReading t = true ↔ t ≤ 20000 := by simp [validReading]

theorem refreshHold_eq (t : Nat) (e : EtuChannel) : e.refreshHold t =
    if t ≤ 20000 then { e with heldTemp := .some t, holdAge := 0 } else e := by
  simp only [EtuChannel.refreshHold, validReading_iff]

/-- The hold and the previous sequence are kept apart. -/
theorem refreshHold_prevSeq (t : Nat) (p : Option Nat) (e : EtuChannel) :
    ({ e with prevSeq := p } : EtuChannel).refreshHold t = { e.refreshHold t with prevSeq := p } := by
  simp only [refreshHold_eq]
  split <;> rfl

/-- The temperature a record is worked at and the hold age after it: its own reading, or the held one
below the hold limit (R20). -/
def WorkedAt (reading limit : Nat) (e : EtuChannel) (temperature age : Nat) : Prop :=
  reading ≤ 20000 ∧ temperature = reading ∧ age = 0 ∨
    20000 < reading ∧ e.heldTemp = .some temperature ∧ e.holdAge < limit ∧ age = e.holdAge + 1

theorem resolve_workedAt {reading limit temperature age : Nat} {e : EtuChannel}
    (h : WorkedAt reading limit e temperature age) :
    (e.refreshHold reading).resolve reading limit = .some (temperature, age) ∧
    { e.refreshHold reading with holdAge := age } =
      { e with heldTemp := .some temperature, holdAge := age } := by
  rcases h with ⟨hr, rfl, rfl⟩ | ⟨hr, held, young, rfl⟩
  · simp [refreshHold_eq, EtuChannel.resolve, validReading_iff, hr]
  · have hr : ¬ reading ≤ 20000 := by omega
    simp [refreshHold_eq, EtuChannel.resolve, validReading_iff, hr, held, young]

theorem resolve_none {reading limit : Nat} {e : EtuChannel} (hr : 20000 < reading)
    (h : e.heldTemp = .none ∨ limit ≤ e.holdAge) :
    e.refreshHold reading = e ∧ e.resolve reading limit = .none := by
  have hr : ¬ reading ≤ 20000 := by omega
  refine ⟨by simp [refreshHold_eq, hr], ?_⟩
  simp only [EtuChannel.resolve, validReading_iff, hr, if_false]
  rcases h with held | old
  · rw [held]
  · cases e.heldTemp with
    | none => rfl
    | some held => exact if_neg (Nat.not_lt.mpr old)

/-- A record that is not timed ends NO_B1, NO_B2 or EDGE (R17). -/
theorem timeRecord_failed {samples : List Int} {e : ChannelEntry} {g : GateSet} {o : ShotOutcome}
    {times : EchoTimes} (h : timeRecord samples e g = .failed o times) :
    o = .noB1 ∨ o = .noB2 ∨ o = .edge := by
  unfold timeRecord at h
  split at h
  · next reason _ => cases h; cases reason <;> simp [EchoFail.outcome]
  · split at h
    · next reason _ => cases h; cases reason <;> simp [EchoFail.outcome]
    · cases h

/-! ### The stages of a measurement record (R10) -/

/-- The state after a record passed validation: its missing shots counted and its sequence kept (R6). -/
def passed (s : State) (c : Fin 8) (r : ShotRecord) : State :=
  worked s c { s.etu[c] with prevSeq := .some r.sequence }
    { s.counters.channels[c] with
      missedShots :=
        add32 s.counters.channels[c].missedShots (sequenceGap s.etu[c].prevSeq r.sequence) }
    s.scs.contexts s.counters.scs.unassignedShots

theorem received_passRecord (s : State) (c : Fin 8) (e : ChannelEntry) (r : ShotRecord) :
    (s.tally (countReceived .aLink)).passRecord c e r =
      if r.kind = 0 then (passed s c r).measure c e r (sequenceGap s.etu[c].prevSeq r.sequence)
      else (passed s c r).reference c e r := by
  simp only [received_eq_worked s c, State.passRecord, worked_tallyChannel, worked_keepSequence,
    worked_etu_self, passed]

/-- A shell with the shots missing before a record counted (R86). -/
def withMissed (gap : Nat) (sh : Shell) : Shell := { sh with missed := add32 sh.missed gap }

section
variable {s : State} {c : Fin 8} {e : ChannelEntry} {r : ShotRecord} {etu : EtuChannel}
  {channel : ChannelCounters} {contexts : Vector (Option Shell) 4} {unassigned gap position : Nat}
  {i : Fin 4} {sh : Shell}

theorem measure_noShell (h : s.assign = .noShell) :
    (worked s c etu channel s.scs.contexts unassigned).measure c e r gap =
      (worked s c (etu.refreshHold r.temperature) channel s.scs.contexts (inc32 unassigned)).finish
        c r .noShell .none := by
  simp only [State.measure, worked_etuChannel, worked_assign, h, worked_unassigned]

theorem measure_beforeHead (h : s.assign = .beforeHead i) (hi : s.scs.contexts[i] = .some sh) :
    (worked s c etu channel s.scs.contexts unassigned).measure c e r gap =
      (worked s c (etu.refreshHold r.temperature) channel
        (s.scs.contexts.set i (.some (sh.countReject .beforeHead))) unassigned).finish
        c r .beforeHead .none := by
  simp only [State.measure, worked_etuChannel, worked_assign, h, worked_shellAt _ _ _ _ _ _ hi]

/-- An assigned record's missing shots are counted in its shell, and it goes on to be timed. -/
theorem measure_assigned (h : s.assign = .assigned i position) (hi : s.scs.contexts[i] = .some sh) :
    (worked s c etu channel s.scs.contexts unassigned).measure c e r gap =
      (worked s c (etu.refreshHold r.temperature) channel
        (s.scs.contexts.set i (.some (withMissed gap sh))) unassigned).timeAndGauge
        c e r i position := by
  simp only [State.measure, worked_etuChannel, worked_assign, h, worked_shellAt _ _ _ _ _ _ hi,
    withMissed]

theorem timeAndGauge_untimed {o : ShotOutcome} {times : EchoTimes}
    (ht : timeRecord r.samples e e.measurementGates = .failed o times)
    (hi : contexts[i] = .some sh) :
    (worked s c etu channel contexts unassigned).timeAndGauge c e r i position =
      (worked s c etu channel (contexts.set i (.some (sh.countReject o))) unassigned).finish
        c r o times := by
  simp only [State.timeAndGauge, ht, State.rejectAssigned, worked_shellAt _ _ _ _ _ _ hi]

theorem timeAndGauge_noTemperature {t1 t2 transit : Nat}
    (ht : timeRecord r.samples e e.measurementGates = .timed t1 t2 transit)
    (hn : etu.resolve r.temperature e.holdLimit = .none) (hi : contexts[i] = .some sh) :
    (worked s c etu channel contexts unassigned).timeAndGauge c e r i position =
      (worked s c etu channel (contexts.set i (.some (sh.countReject .noTemperature)))
        unassigned).finish c r .noTemperature ⟨.some t1, .some t2, .some transit⟩ := by
  simp only [State.timeAndGauge, ht, worked_etu_self, hn, State.rejectAssigned,
    worked_shellAt _ _ _ _ _ _ hi]

/-- A timed record with a temperature goes on to the walls. -/
theorem timeAndGauge_gauge {t1 t2 transit temperature age : Nat}
    (ht : timeRecord r.samples e e.measurementGates = .timed t1 t2 transit)
    (hn : etu.resolve r.temperature e.holdLimit = .some (temperature, age)) :
    (worked s c etu channel contexts unassigned).timeAndGauge c e r i position =
      (worked s c { etu with holdAge := age } channel contexts unassigned).gauge c e r i position
        ⟨.some t1, .some t2, .some transit⟩ transit temperature := by
  simp only [State.timeAndGauge, ht, worked_etu_self, hn, worked_etuChannel]

theorem gauge_implausible {transit temperature : Nat} {times : EchoTimes}
    (hi : contexts[i] = .some sh)
    (hw : sh.bank.plausible (computeWall e (s.velocityTable e) (s.rmeas c e) sh.bank.contraction
      transit temperature).wCold = false) :
    (worked s c etu channel contexts unassigned).gauge c e r i position times transit temperature =
      (worked s c etu { channel with implausible := inc32 channel.implausible }
        (contexts.set i (.some (sh.countReject .implausible))) unassigned).finish
        c r .implausible times := by
  simp only [State.gauge, worked_contexts, hi, worked_velocityTable, worked_rmeas, hw,
    Bool.false_eq_true, if_false, worked_shellAt _ _ _ _ _ _ hi, worked_tallyChannel]

theorem gauge_plausible {transit temperature : Nat} {times : EchoTimes}
    (hi : contexts[i] = .some sh) {w : WallResult}
    (hw : computeWall e (s.velocityTable e) (s.rmeas c e) sh.bank.contraction transit temperature = w)
    (hp : sh.bank.plausible w.wCold = true) :
    (worked s c etu channel contexts unassigned).gauge c e r i position times transit temperature =
      ((worked s c etu channel contexts unassigned).acceptShot i sh e r
        (shotOf c e sh.bank position w.wCold (s.ref c).stale) w temperature).finish
        c r .accepted times := by
  simp only [State.gauge, worked_contexts, hi, worked_velocityTable, worked_rmeas, hw, hp, if_true,
    worked_ref]

end

theorem plausible_iff (b : ProductBank) (w : Nat) :
    b.plausible w = true ↔ b.plausibleMin ≤ w ∧ w ≤ b.plausibleMax := by
  simp [ProductBank.plausible]

theorem implausible_iff (b : ProductBank) (w : Nat) :
    b.plausible w = false ↔ w < b.plausibleMin ∨ b.plausibleMax < w := by
  rw [← Bool.not_eq_true, plausible_iff]
  omega

end Sys2Proof.Proofs
end

section
/-! PROOFS. Records that are dropped or rejected (O37). -/

namespace Sys2Proof.Proofs

open Sys2Proof.Machine Sys2Proof.Laws

section
variable {bytes : List Byte} {f : Frame} {s : State} (hr : s.resetHeld = false)
  (hl : s.ali.inLock = true) (hf : checkFrame .aLink bytes = .passed f) (hk : f.kind = 0x11)
include hr hl hf hk

/-- A record that is worked to an outcome without touching references, mode or tables ends so. -/
theorem recordEnds_of_takeRecord {c : Fin 8} {r : ShotRecord} {etu : EtuChannel}
    {channel : ChannelCounters} {contexts : Vector (Option Shell) 4} {unassigned : Nat}
    {o : ShotOutcome} {times : EchoTimes}
    (h : (s.tally (countReceived .aLink)).takeRecord f.payload =
      (worked s c { etu with prevSeq := .some r.sequence } channel contexts unassigned).finish
        c r o times) :
    ∃ t, exec (.shotRecord bytes) s = .next t ∧
      RecordEnds s t c r etu channel contexts unassigned o times :=
  ⟨_, exec_shotRecord_of hr hl hf hk h (by simp) (by simp) (by simp), recordEnds_finish ..⟩

/-- Step 1 of R3 (R4). -/
theorem exec_unknownChannel
    (h : ∀ c, slotOf (readShotRecord f.payload).channel = .some c →
      s.scs.mode ≠ .unconfigured ∧ s.enabled c = false) :
    exec (.shotRecord bytes) s =
      .next (s.tally (countReceived .aLink)).dropUnknownChannel :=
  exec_shotRecord_of hr hl hf hk (takeRecord_unknown h) (by simp [State.dropUnknownChannel])
    (by simp [State.dropUnknownChannel]) (by simp [State.dropUnknownChannel])

/-- Step 2 of R3 (R5). -/
theorem exec_badLength {c : Fin 8} (hc : slotOf (readShotRecord f.payload).channel = .some c)
    (he : s.scs.mode = .unconfigured ∨ s.enabled c = true)
    (hb : (readShotRecord f.payload).badLength f.payload.length = true) :
    exec (.shotRecord bytes) s = .next ((s.tally (countReceived .aLink)).dropBadLength c) :=
  exec_shotRecord_of hr hl hf hk (takeRecord_badLength hc he hb) (by simp [State.dropBadLength])
    (by simp [State.dropBadLength]) (by simp [State.dropBadLength])

/-- Step 3 of R3 (R8): the sequence is kept, the drop is counted, and nothing else of the channel. -/
theorem exec_modeDrop {c : Fin 8} {o : ShotOutcome}
    (hc : slotOf (readShotRecord f.payload).channel = .some c)
    (hb : (readShotRecord f.payload).badLength f.payload.length = false)
    (hm : s.scs.mode = .unconfigured ∧ o = .unconfigured ∨
      s.scs.mode = .parked ∧ s.enabled c = true ∧ (readShotRecord f.payload).kind = 0 ∧
        o = .parked) :
    ∃ t, exec (.shotRecord bytes) s = .next t ∧
      RecordEnds s t c (readShotRecord f.payload) s.etu[c]
        { s.counters.channels[c] with modeDrops := inc32 s.counters.channels[c].modeDrops }
        s.scs.contexts s.counters.scs.unassignedShots o .none := by
  refine recordEnds_of_takeRecord hr hl hf hk ?_
  rw [takeRecord_modeDrop (s := s.tally (countReceived .aLink)) hc hb hm]
  simp only [State.dropForMode, received_eq_worked s c, worked_keepSequence, worked_tallyChannel]

variable {c : Fin 8} {e : ChannelEntry}
  (hc : slotOf (readShotRecord f.payload).channel = .some c)
  (he : enabledEntry s.tbs.active.channels[c] = .some e)
  (hb : (readShotRecord f.payload).badLength f.payload.length = false)
  (hkind : (readShotRecord f.payload).kind = 0) (hu : s.scs.mode ≠ .unconfigured)
  (hp : s.scs.mode ≠ .parked)
include hc he hb hkind hu hp

omit hr hl hf hk in
/-- A measurement record that passes validation is measured (R10). -/
theorem takeRecord_measures :
    (s.tally (countReceived .aLink)).takeRecord f.payload =
      (passed s c (readShotRecord f.payload)).measure c e (readShotRecord f.payload)
        (sequenceGap s.etu[c].prevSeq (readShotRecord f.payload).sequence) := by
  rw [takeRecord_passes (s := s.tally (countReceived .aLink)) hc he hb hu (.inl hp),
    received_passRecord, if_pos hkind]

/-- A measurement record ends as its stages say. -/
theorem recordEnds_of_measure {etu : EtuChannel} {channel : ChannelCounters}
    {contexts : Vector (Option Shell) 4} {unassigned : Nat} {o : ShotOutcome} {times : EchoTimes}
    (h : (passed s c (readShotRecord f.payload)).measure c e (readShotRecord f.payload)
        (sequenceGap s.etu[c].prevSeq (readShotRecord f.payload).sequence) =
      (worked s c { etu with prevSeq := .some (readShotRecord f.payload).sequence } channel contexts
        unassigned).finish c (readShotRecord f.payload) o times) :
    ∃ t, exec (.shotRecord bytes) s = .next t ∧
      RecordEnds s t c (readShotRecord f.payload) etu channel contexts unassigned o times :=
  recordEnds_of_takeRecord hr hl hf hk
    ((takeRecord_measures hc he hb hkind hu hp).trans h)

end

/-- The reject counts of a shell with an untimed record counted (R86). -/
def countUntimed (o : ShotOutcome) (rejects : Rejects) : Rejects :=
  match o with
  | .noB1 => { rejects with noB1 := inc32 rejects.noB1 }
  | .noB2 => { rejects with noB2 := inc32 rejects.noB2 }
  | _ => { rejects with edge := inc32 rejects.edge }

theorem countReject_untimed {o : ShotOutcome} (h : o = .noB1 ∨ o = .noB2 ∨ o = .edge) (sh : Shell) :
    sh.countReject o = { sh with rejects := countUntimed o sh.rejects } := by
  rcases h with rfl | rfl | rfl <;> rfl

/-- Settles O37: the steps of validation and the stages of R10, each stage that fails ending the
record. -/
theorem rejectedShotTouchesNoShell : Obligations.RejectedShotTouchesNoShell := by
  unfold Obligations.RejectedShotTouchesNoShell
  intro bytes f s hr hl hf hk r a wrong untimed ended
  refine ⟨exec_unknownChannel hr hl hf hk, fun c hc he hw => ?_, fun c o hc hw hm => ?_,
    fun c e hc he hw hkind hu hp => ?_⟩
  · exact exec_badLength hr hl hf hk hc he ((badLength_iff _ _).mpr hw)
  · exact exec_modeDrop hr hl hf hk hc (Bool.not_eq_true _ ▸ mt (badLength_iff _ _).mp hw) hm
  have ends := @recordEnds_of_measure bytes f s hr hl hf hk c e hc he
    (Bool.not_eq_true _ ▸ mt (badLength_iff _ _).mp hw) hkind hu hp
  rw [passed, sequenceGap_eq] at ends
  intro gap channel refreshed unassigned
  have kept : ({ s.etu[c] with prevSeq := .some r.sequence } : EtuChannel).refreshHold r.temperature =
      { refreshed with prevSeq := .some r.sequence } := by
    rw [refreshHold_prevSeq, refreshHold_eq]
  refine ⟨fun ha => ?_, fun i sh ha hi => ?_, fun i position sh ha hi => ?_⟩
  · refine ends (etu := refreshed) ?_
    rw [measure_noShell ha, kept]
    rfl
  · refine ends (etu := refreshed) ?_
    rw [measure_beforeHead ha hi, kept]
    rfl
  rw [measure_assigned ha hi] at ends
  intro counted
  have here : ∀ sh' : Shell, (s.scs.contexts.set i (.some sh'))[i] = .some sh' := fun _ => by simp
  refine ⟨fun o times ht => ⟨timeRecord_failed ht, ?_⟩,
    fun t1 t2 transit ht => ⟨fun cold none => ?_, fun temperature age hT => ?_⟩⟩
  · refine ends (etu := refreshed) ?_
    rw [timeAndGauge_untimed ht (here _), kept, countReject_untimed (timeRecord_failed ht),
      Vector.set_set]
    rfl
  · obtain ⟨keeps, absent⟩ :=
      resolve_none (e := { s.etu[c] with prevSeq := .some r.sequence }) cold none
    refine ends (etu := s.etu[c]) ?_
    rw [keeps, timeAndGauge_noTemperature ht absent (here _), Vector.set_set]
    rfl
  · intro w hw
    obtain ⟨present, hold⟩ :=
      resolve_workedAt (e := { s.etu[c] with prevSeq := .some r.sequence }) hT
    refine ends (etu := { s.etu[c] with heldTemp := .some temperature, holdAge := age }) ?_
    rw [timeAndGauge_gauge ht present, hold,
      gauge_implausible (here (withMissed _ sh)) ((implausible_iff _ _).mpr hw), Vector.set_set]
    rfl

end Sys2Proof.Proofs
end

section
/-! PROOFS. The record that is ACCEPTED (O36): what the SCS and the LDU take of it (R55, R107, R155,
R158). -/

namespace Sys2Proof.Proofs

open Sys2Proof.Machine Sys2Proof.Laws

/-- The first excursion of a shell is an occurrence of EXCURSION; nothing else changes (R105). -/
theorem raiseExcursion_eq (before after : Shell) (s : State) :
    let t := s.raiseExcursion before after
    t = { s with evu := t.evu, counters := { s.counters with evu := t.counters.evu } } ∧
    ∀ g, g ≠ .excursion → t.flag g = s.flag g := by
  unfold State.raiseExcursion
  dsimp only
  split
  · exact ⟨raise_eq _ _ _, fun g hg => raise_flag_other hg _ _⟩
  · exact ⟨rfl, fun _ _ => rfl⟩

/-- A wall sample joins a live queue with a place, and is lost with LIVE_OVERRUN at a full one (R156). -/
theorem offerSample_eq (x : WallSample) (s : State) :
    let t := s.offerSample x
    t = { s with
      ldu := { s.ldu with
        liveQueue := if s.ldu.liveQueue.length < 64 then s.ldu.liveQueue ++ [x]
          else s.ldu.liveQueue }
      evu := t.evu
      counters := { s.counters with
        ldu := { t.counters.ldu with capturesTaken := s.counters.ldu.capturesTaken }
        evu := t.counters.evu } } ∧
    ∀ g, g ≠ .liveOverrun → t.flag g = s.flag g := by
  unfold State.offerSample offer Config.livePlaces
  dsimp only
  by_cases h : s.ldu.liveQueue.length < 64
  · simp only [h, if_true]
    exact ⟨rfl, fun _ _ => rfl⟩
  · simp only [h, if_false]
    refine ⟨?_, fun g hg => raise_flag_other hg _ _⟩
    rw [raise_eq]
    rfl

/-- What an ACCEPTED record changes before its outcome: its context takes the shot and the live data the
wall and, on a live channel, the sample. -/
theorem acceptShot_eq {i : Fin 4} {sh : Shell} (e : ChannelEntry) (r : ShotRecord) (shot : Shot)
    (w : WallResult) (temperature : Nat) {s : State} (hi : s.scs.contexts[i] = .some sh) :
    let t := s.acceptShot i sh e r shot w temperature
    t = { s with
      scs := { s.scs with contexts := s.scs.contexts.set i (.some (sh.accept shot)) }
      ldu :=
        { liveQueue := if e.live = true ∧ s.ldu.liveQueue.length < 64 then
            s.ldu.liveQueue ++ [sampleOf r sh shot w temperature] else s.ldu.liveQueue
          lastWCold := s.ldu.lastWCold.set shot.channel (.some w.wCold)
          interval := s.ldu.interval.take w.wCold
          capture := s.ldu.capture }
      evu := t.evu
      counters := { s.counters with
        ldu := { t.counters.ldu with capturesTaken := s.counters.ldu.capturesTaken }
        evu := t.counters.evu } } ∧
    ∀ g, g ≠ .excursion → g ≠ .liveOverrun → t.flag g = s.flag g := by
  have binned : s.shellAt i (Shell.accept shot) =
      { s with scs.contexts := s.scs.contexts.set i (.some (sh.accept shot)) } := by
    simp only [State.shellAt, hi, Option.map_some]
  unfold State.acceptShot
  rw [binned]
  dsimp only
  obtain ⟨excursion, flag⟩ := raiseExcursion_eq sh (sh.accept shot)
    { s with scs.contexts := s.scs.contexts.set i (.some (sh.accept shot)) }
  generalize State.raiseExcursion sh (sh.accept shot) _ = u at excursion flag ⊢
  by_cases live : e.live = true
  · simp only [live, if_true, true_and]
    obtain ⟨sample, flag'⟩ := offerSample_eq (sampleOf r sh shot w temperature)
      (u.takeWall shot.channel w.wCold)
    refine ⟨?_, fun g hg hg' => (flag' g hg').trans (flag g hg)⟩
    rw [sample, excursion]
    rfl
  · simp only [live, false_and, if_false, Bool.false_eq_true]
    refine ⟨?_, fun g hg _ => flag g hg⟩
    rw [excursion]
    rfl

/-- Settles O36: the stages of R10 lead to a plausible wall, the SCS and the LDU take it, and the record
ends ACCEPTED. -/
theorem acceptedShotIsBinned : Obligations.AcceptedShotIsBinned := by
  unfold Obligations.AcceptedShotIsBinned
  intro bytes f c e i sh position t1 t2 transit temperature age s hr hl hf hk hu hp r hc he hb hkind
    hT ha hi ht w low high shot gap
  have hgap : sequenceGap s.etu[c].prevSeq r.sequence = gap := sequenceGap_eq _ _
  obtain ⟨present, hold⟩ :=
    resolve_workedAt (e := { s.etu[c] with prevSeq := .some r.sequence }) hT
  have here : ∀ sh' : Shell, (s.scs.contexts.set i (.some sh'))[i] = .some sh' := fun _ => by simp
  have plausible : (withMissed gap sh).bank.plausible w.wCold = true :=
    (plausible_iff _ _).mpr ⟨low, high⟩
  generalize hm : worked s c
    { s.etu[c] with
      prevSeq := .some r.sequence, heldTemp := .some temperature, holdAge := age }
    { s.counters.channels[c] with missedShots := add32 s.counters.channels[c].missedShots gap }
    (s.scs.contexts.set i (.some (withMissed gap sh))) s.counters.scs.unassignedShots = m
  have taken : (s.tally (countReceived .aLink)).takeRecord f.payload =
      (m.acceptShot i (withMissed gap sh) e r shot w temperature).finish c r .accepted
        ⟨.some t1, .some t2, .some transit⟩ := by
    rw [takeRecord_measures hc he hb hkind hu hp, passed, measure_assigned ha hi,
      timeAndGauge_gauge ht present, hold, hgap, gauge_plausible (here _) rfl plausible, hm]
    rfl
  have standing : m.scs.contexts[i] = .some (withMissed gap sh) := by rw [← hm]; exact here _
  obtain ⟨accepted, flag⟩ := acceptShot_eq e r shot w temperature standing
  generalize m.acceptShot i (withMissed gap sh) e r shot w temperature = u at taken accepted flag
  obtain ⟨hetu, hldu, hmli, hcounters, hflag⟩ :=
    finish_frame c r .accepted ⟨.some t1, .some t2, .some transit⟩ u
  have offer : SameOffer s u := by
    have quiet := flag .captureReady (by decide) (by decide)
    constructor
    case flag => rw [quiet, ← hm]; rfl
    all_goals rw [accepted, ← hm]; rfl
  refine ⟨_, exec_shotRecord_of hr hl hf hk taken ?_ ?_ ?_, ?_, ?_, ?_, ?_, ?_,
    finish_offered offer .., ?_, ?_, fun g hg hg' hg'' => ?_, ?_, ?_, ?_, ?_, ?_, ?_, ?_, ?_⟩
  · rw [finish_scs, accepted, ← hm]; rfl
  · rw [finish_rfs, accepted, ← hm]; rfl
  · rw [finish_tbs, accepted, ← hm]; rfl
  · rw [finish_scs, accepted, ← hm]; simp only [worked, Vector.set_set]; rfl
  · rw [hetu, accepted, ← hm]
    simp only [worked, Vector.set_set, Fin.getElem_fin, Vector.getElem_set_self]
  · rw [hldu, accepted, ← hm]; rfl
  · rw [hldu, accepted, ← hm]; rfl
  · rw [hldu, accepted, ← hm]; rfl
  · rw [hcounters, accepted, ← hm]
    simp only [worked, Fin.getElem_fin, Vector.getElem_set_self]
    rfl
  · rw [hcounters, accepted, ← hm]; rfl
  · rw [hflag g hg'', flag g hg hg', ← hm]; rfl
  · rw [finish_rfs, accepted, ← hm]; rfl
  · rw [finish_tru, accepted, ← hm]; rfl
  · rw [finish_tbs, accepted, ← hm]; rfl
  · rw [finish_ali, accepted, ← hm]; rfl
  · rw [finish_rpb, accepted, ← hm]; rfl
  · rw [finish_cmu, accepted, ← hm]; rfl
  · rw [finish_pins, accepted, ← hm]; rfl
  · rw [hmli, accepted, ← hm]; rfl

end Sys2Proof.Proofs
end

section
/-! PROOFS. The reference record (O38): its match with the outstanding request, the tolerance, and the
end of the request with the examination that follows (R11, R32 to R34). -/

namespace Sys2Proof.Proofs

open Sys2Proof.Machine Sys2Proof.Laws

/-! ### The judgement -/

/-- The tolerance test of R33, without the difference. -/
theorem tolerates_iff (e : ChannelEntry) (transit : Nat) : e.tolerates transit = true ↔
    transit * 1000000 ≤ e.rnom * 1000000 + e.rnom * e.refTolerance ∧
      e.rnom * 1000000 ≤ transit * 1000000 + e.rnom * e.refTolerance := by
  simp only [ChannelEntry.tolerates, decide_eq_true_eq]
  omega

theorem matchesRequest_iff (s : State) (c : Fin 8) (r : ShotRecord) : s.matchesRequest c r = true ↔
    ∃ timeout, s.rfs.channels[c].request = .some ⟨r.tag, .sent timeout⟩ := by
  unfold State.matchesRequest State.ref
  rcases s.rfs.channels[c].request with _ | ⟨tag, _ | timeout⟩ <;> simp

/-! ### The references -/

/-- A backlog that does not reach 12 from below raises no REFERENCE_OVERDUE (R25). -/
theorem setBacklog_quiet {c : Fin 8} {n : Nat} {s : State} (h : (s.ref c).backlog < 12 → n < 12) :
    s.setBacklog c n = s.rfsChannel c fun r => { r with backlog := n } := by
  have : ¬ ((s.ref c).backlog < overdueFrom ∧ overdueFrom ≤ n) := by
    simp only [overdueFrom]; omega
  simp only [State.setBacklog, this, if_false]

theorem rfsChannel_rfsChannel (c : Fin 8) (f g : RfsChannel → RfsChannel) (s : State) :
    (s.rfsChannel c f).rfsChannel c g = s.rfsChannel c fun r => g (f r) := by
  simp only [State.rfsChannel, Fin.getElem_fin, Vector.getElem_set_self, Vector.set_set]

/-- A channel whose request an accepted record answered (R33). -/
def acceptedOver (transit : Nat) (r : RfsChannel) : RfsChannel :=
  { r with refState := .some ⟨transit, false⟩, backlog := r.backlog - 1, request := .none }

theorem acceptReference_eq (c : Fin 8) (r : ShotRecord) (times : EchoTimes) (transit : Nat)
    (s : State) : s.acceptReference c r times transit =
      (((s.rfsChannel c (acceptedOver transit)).tallyChannel c fun k =>
        { k with referencesAccepted := inc32 k.referencesAccepted }).finish c r .referenceAccepted
          times).examine := by
  rw [State.acceptReference, setBacklog_quiet (by omega), rfsChannel_rfsChannel]
  rfl

/-! ### The end of a reference record -/

/-- `t` is `m` after a reference record ended with outcome `o` and the channels were examined: requests
may be issued and none is owed, and the record's offers and last outcome are all else that changed. -/
structure ReferenceEnds (m t : State) (c : Fin 8) (r : ShotRecord) (o : ShotOutcome)
    (times : EchoTimes) : Prop where
  issues : m.OnlyIssues t
  noneOwed : t.NoneOwed
  etu : t.etu = m.etu.set c { m.etu[c] with lastOutcome := .some o }
  offered : m.Offered t c r o times
  counters : ∀ d : Fin 8, t.counters.channels[d] =
    { m.counters.channels[d] with requestsIssued := t.counters.channels[d].requestsIssued }
  flag : ∀ g, g ≠ .captureReady → t.flag g = m.flag g
  scs : t.scs = m.scs
  tru : t.tru = m.tru
  tbs : t.tbs = m.tbs
  sending : t.ali.sending = m.ali.sending
  rpb : t.rpb = m.rpb
  cmu : t.cmu = m.cmu

theorem referenceEnds (s m : State) (c : Fin 8) (r : ShotRecord) (o : ShotOutcome)
    (times : EchoTimes) :
    ReferenceEnds m (s.reportDrained (m.finish c r o times).examine) c r o times := by
  obtain ⟨hetu, -, -, hcounters, hflag⟩ := finish_frame c r o times m
  have offered := finish_offered (s := m) ⟨rfl, rfl, rfl, rfl, rfl, rfl⟩ c r o times
  have hx := examine_examined (m.finish c r o times)
  obtain ⟨l, queue, -⟩ := hx.queue
  have noneOwed := examine_noneOwed (m.finish c r o times)
  constructor
  case issues =>
    intro d
    have h := hx.issues d
    rwa [finish_rfs, ← reportDrained_channels _ s] at h
  case noneOwed => exact noneOwed_congr (by simp) (by simp) (by simp) (by simp) noneOwed
  case etu => rw [reportDrained_etu, examine_etu, hetu]
  case offered =>
    refine offered_congr (s' := m) ⟨rfl, rfl, rfl, rfl, rfl, rfl⟩ ⟨?_, ?_, ?_, ?_, ?_, ?_⟩ offered
    · simp
    · exact flag_congr (by simp) _
    · rw [reportDrained_counters, hx.counters]
    · simp
    · simp
    · rw [reportDrained_counters, hx.counters]
  case counters =>
    intro d
    rw [reportDrained_counters, hx.issued d, hcounters]
  case flag => exact fun g hg => (flag_congr (by simp) g).trans (hflag g hg)
  case scs => simp
  case tru => simp
  case tbs => simp
  case sending => rw [reportDrained_ali, queue, finish_ali]
  case rpb => simp
  case cmu => simp

/-! ### Accepted, late, or rejected -/

/-- The state of a matched reference record that is rejected, before its outcome (R34). -/
def referenceRefused (c : Fin 8) (s : State) : State :=
  ((s.dropRequest c).raise .referenceRejected .none).tallyChannel c fun k =>
    { k with referencesRejected := inc32 k.referencesRejected }

theorem referenceRefused_frame (c : Fin 8) (u : State) :
    let t := referenceRefused c u
    t = { u.dropRequest c with
      evu := t.evu
      counters := { u.counters with channels := t.counters.channels, evu := t.counters.evu } } ∧
    t.counters.channels[c].referencesRejected = inc32 u.counters.channels[c].referencesRejected ∧
    t.flag .referenceRejected = (u.flag .referenceRejected).occur .none ∧
    ∀ g, g ≠ .referenceRejected → t.flag g = u.flag g := by
  intro t
  have tallied := tallyChannel_get c c
    (fun k => { k with referencesRejected := inc32 k.referencesRejected })
    ((u.dropRequest c).raise .referenceRejected .none)
  rw [if_pos rfl, raise_counters_channels] at tallied
  refine ⟨?_, congrArg (·.referencesRejected) tallied, raise_flag_same .referenceRejected _ _,
    fun g hg => raise_flag_other hg _ _⟩
  simp only [t, referenceRefused]
  rw [raise_eq]
  rfl

/-- The state of a matched reference record that is accepted, before its outcome (R33). -/
def referenceTaken (c : Fin 8) (transit : Nat) (s : State) : State :=
  (s.rfsChannel c (acceptedOver transit)).tallyChannel c fun k =>
    { k with referencesAccepted := inc32 k.referencesAccepted }

section
variable {bytes : List Byte} {f : Frame} {s : State} {c : Fin 8} {e : ChannelEntry}
  (hr : s.resetHeld = false) (hl : s.ali.inLock = true)
  (hf : checkFrame .aLink bytes = .passed f) (hk : f.kind = 0x11)
  (hu : s.scs.mode ≠ .unconfigured)
  (hc : slotOf (readShotRecord f.payload).channel = .some c)
  (he : enabledEntry s.tbs.active.channels[c] = .some e)
  (hb : (readShotRecord f.payload).badLength f.payload.length = false)
  (hkind : (readShotRecord f.payload).kind = 1)
include hu hc he hb hkind

theorem takeRecord_reference : (s.tally (countReceived .aLink)).takeRecord f.payload =
    (passed s c (readShotRecord f.payload)).reference c e (readShotRecord f.payload) := by
  have hn : (readShotRecord f.payload).kind ≠ 0 := by omega
  rw [takeRecord_passes (s := s.tally (countReceived .aLink)) hc he hb hu (.inr hn),
    received_passRecord, if_neg hn]

include hr hl hf hk

/-- Without a matching SENT request the record is late (R32). -/
theorem exec_lateReference
    (h : ∀ timeout, s.rfs.channels[c].request ≠
      .some ⟨(readShotRecord f.payload).tag, .sent timeout⟩) :
    ∃ t, exec (.shotRecord bytes) s = .next t ∧
      RecordEnds s t c (readShotRecord f.payload) s.etu[c]
        { s.counters.channels[c] with
          missedShots := add32 s.counters.channels[c].missedShots
            (sequenceGap s.etu[c].prevSeq (readShotRecord f.payload).sequence)
          lateReferences := inc32 s.counters.channels[c].lateReferences }
        s.scs.contexts s.counters.scs.unassignedShots .lateReference .none := by
  refine recordEnds_of_takeRecord hr hl hf hk ?_
  have late : ¬ s.matchesRequest c (readShotRecord f.payload) = true := by
    rw [matchesRequest_iff]
    exact fun ⟨timeout, ht⟩ => h timeout ht
  rw [takeRecord_reference hu hc he hb hkind]
  simp only [State.reference, passed, worked_matchesRequest, late, worked_tallyChannel]
  rfl

variable {timeout : Nat} (hq : s.rfs.channels[c].request =
  .some ⟨(readShotRecord f.payload).tag, .sent timeout⟩)
include hq

/-- A matching record within tolerance is accepted (R33). -/
theorem exec_acceptedReference {t1 t2 transit : Nat}
    (ht : timeRecord (readShotRecord f.payload).samples e e.referenceGates = .timed t1 t2 transit)
    (hw : e.tolerates transit = true) :
    ∃ t, exec (.shotRecord bytes) s = .next t ∧
      ReferenceEnds (referenceTaken c transit (passed s c (readShotRecord f.payload))) t c
        (readShotRecord f.payload) .referenceAccepted ⟨.some t1, .some t2, .some transit⟩ := by
  refine ⟨_, ?_, referenceEnds s _ _ _ _ _⟩
  rw [exec_shotRecord hr hl hf hk, takeRecord_reference hu hc he hb hkind]
  simp only [State.reference, (matchesRequest_iff s c _).mpr ⟨timeout, hq⟩, passed,
    worked_matchesRequest, if_true, ht, hw, acceptReference_eq]
  rfl

/-- A matching record that is not timed is rejected (R34). -/
theorem exec_untimedReference {o : ShotOutcome} {times : EchoTimes}
    (ht : timeRecord (readShotRecord f.payload).samples e e.referenceGates = .failed o times) :
    ∃ t, exec (.shotRecord bytes) s = .next t ∧
      ReferenceEnds (referenceRefused c (passed s c (readShotRecord f.payload))) t c
        (readShotRecord f.payload) o times := by
  refine ⟨_, ?_, referenceEnds s _ _ _ _ _⟩
  rw [exec_shotRecord hr hl hf hk, takeRecord_reference hu hc he hb hkind]
  simp only [State.reference, (matchesRequest_iff s c _).mpr ⟨timeout, hq⟩, passed,
    worked_matchesRequest, if_true, ht]
  rfl

/-- A matching record out of tolerance is rejected (R34). -/
theorem exec_intolerableReference {t1 t2 transit : Nat}
    (ht : timeRecord (readShotRecord f.payload).samples e e.referenceGates = .timed t1 t2 transit)
    (hw : e.tolerates transit = false) :
    ∃ t, exec (.shotRecord bytes) s = .next t ∧
      ReferenceEnds (referenceRefused c (passed s c (readShotRecord f.payload))) t c
        (readShotRecord f.payload) .outOfTolerance ⟨.some t1, .some t2, .some transit⟩ := by
  refine ⟨_, ?_, referenceEnds s _ _ _ _ _⟩
  rw [exec_shotRecord hr hl hf hk, takeRecord_reference hu hc he hb hkind]
  simp only [State.reference, (matchesRequest_iff s c _).mpr ⟨timeout, hq⟩, passed,
    worked_matchesRequest, if_true, ht, hw, Bool.false_eq_true, if_false]
  rfl

end

/-- The ETU keeps the sequence and the outcome of a record that passed. -/
theorem passed_etu_outcome (s : State) (c : Fin 8) (r : ShotRecord) (o : ShotOutcome) :
    (passed s c r).etu.set c { (passed s c r).etu[c] with lastOutcome := .some o } =
      s.etu.set c { s.etu[c] with prevSeq := .some r.sequence, lastOutcome := .some o } := by
  simp only [passed, worked, Fin.getElem_fin, Vector.getElem_set_self, Vector.set_set]

/-- Validation counts a record's missing shots alone. -/
theorem passed_counters (s : State) (c : Fin 8) (r : ShotRecord) :
    (passed s c r).counters.channels[c] =
      { s.counters.channels[c] with
        missedShots :=
          add32 s.counters.channels[c].missedShots (sequenceGap s.etu[c].prevSeq r.sequence) } := by
  simp only [passed, worked, Fin.getElem_fin, Vector.getElem_set_self]

/-- A record rejected after its match: the request is gone, REFERENCE_REJECTED is raised and the
rejection is counted (R34). -/
theorem referenceRefused_ends {s t : State} {c : Fin 8} {r : ShotRecord} {o : ShotOutcome}
    {times : EchoTimes}
    (h : ReferenceEnds (referenceRefused c (passed s c r)) t c r o times) :
    State.OnlyIssues
      { s with
        rfs.channels := s.rfs.channels.set c { s.rfs.channels[c] with request := .none } } t ∧
    t.NoneOwed ∧ t.scs = s.scs ∧
    t.etu = s.etu.set c
      { s.etu[c] with prevSeq := .some r.sequence, lastOutcome := .some o } ∧
    s.Offered t c r o times ∧
    t.counters.channels[c].referencesRejected =
      inc32 s.counters.channels[c].referencesRejected ∧
    t.flag .referenceRejected = (s.flag .referenceRejected).occur .none ∧
    ∀ g, g ≠ .referenceRejected → g ≠ .captureReady → t.flag g = s.flag g := by
  obtain ⟨state, counted, raised, other⟩ := referenceRefused_frame c (passed s c r)
  generalize referenceRefused c (passed s c r) = m at h state counted raised other
  have rest : SameOffer s m := by
    constructor
    case flag => exact other _ (by decide)
    all_goals rw [state]; rfl
  refine ⟨?_, h.noneOwed, ?_, ?_, ?_, ?_, ?_, ?_⟩
  · have issues := h.issues
    rw [state] at issues
    exact issues
  · rw [h.scs, state]; rfl
  · rw [h.etu, state]; exact passed_etu_outcome ..
  · exact offered_congr rest ⟨rfl, rfl, rfl, rfl, rfl, rfl⟩ h.offered
  · rw [h.counters c, counted, passed_counters]
  · rw [h.flag _ (by decide)]; exact raised
  · exact fun g hg hg' => (h.flag g hg').trans (other g hg)

/-- Settles O38: a reference record is late, or its match is judged and the channels are examined. -/
theorem referenceRecordIsJudged : Obligations.ReferenceRecordIsJudged := by
  unfold Obligations.ReferenceRecordIsJudged
  refine ⟨?_, ?_⟩
  · intro bytes f c e t1 t2 transit timeout s hr hl hf hk hu r hc he hb hkind hq ht high low
    obtain ⟨t, step, h⟩ := exec_acceptedReference hr hl hf hk hu hc he hb hkind hq ht
      ((tolerates_iff e transit).mpr ⟨high, low⟩)
    refine ⟨t, step, h.issues, h.noneOwed, h.etu.trans (passed_etu_outcome s c r _),
      offered_congr ⟨rfl, rfl, rfl, rfl, rfl, rfl⟩ ⟨rfl, rfl, rfl, rfl, rfl, rfl⟩ h.offered, ?_,
      h.flag, h.scs, h.tru, h.tbs, h.sending, h.rpb, h.cmu⟩
    rw [h.counters c, referenceTaken, tallyChannel_get, if_pos rfl, rfsChannel_counters,
      passed_counters]
  · intro bytes f c e s hr hl hf hk hu r hc he hb hkind rejected
    refine ⟨fun h => ?_, fun timeout hq => ⟨fun o times ht => ⟨timeRecord_failed ht, ?_⟩,
      fun t1 t2 transit ht hw => ?_⟩⟩
    · obtain ⟨t, step, offered, scs, etu, channels, -, -, -, -, flag, rfs, -, -, ali, -⟩ :=
        exec_lateReference hr hl hf hk hu hc he hb hkind h
      refine ⟨t, step, rfs, ali, scs, etu, offered, ?_, flag⟩
      simp only [channels, Fin.getElem_fin, Vector.getElem_set_self]
    · obtain ⟨t, step, h⟩ := exec_untimedReference hr hl hf hk hu hc he hb hkind hq ht
      exact ⟨t, step, referenceRefused_ends h⟩
    · have intolerable : e.tolerates transit = false := by
        rw [← Bool.not_eq_true, tolerates_iff]
        omega
      obtain ⟨t, step, h⟩ :=
        exec_intolerableReference hr hl hf hk hu hc he hb hkind hq ht intolerable
      exact ⟨t, step, referenceRefused_ends h⟩

end Sys2Proof.Proofs
end

section
/-! PROOFS. The change report of an activation (R137, R139): what one slot's change makes of its channel,
of the A-out queue and of the flags (R36, R38). -/

namespace Sys2Proof.Proofs

open Sys2Proof.Machine Sys2Proof.Laws

/-! ### One channel under the change report (R36, R38) -/

/-- The classes of R139 under which an outstanding request is cancelled. -/
def cancels : SlotChange → Bool
  | .newlyDisabled | .referenceChanged => true
  | .newlyEnabled | .intervalChanged | .unchanged => false

/-- A channel's references after a change but for its request, under the entry now active (R38). -/
def followChange (active : Option ChannelEntry) (change : SlotChange) (r : RfsChannel) : RfsChannel :=
  let entry := enabledEntry active
  match change with
  | .unchanged => r
  | .intervalChanged => { r with interval := entry.map (·.refInterval) }
  | .newlyEnabled | .referenceChanged =>
    ⟨entry.map fun e => ⟨e.rnom, true⟩, 8, entry.map (·.refInterval), r.request⟩
  | .newlyDisabled => ⟨.none, 0, .none, r.request⟩

@[simp] theorem followChange_request (active : Option ChannelEntry) (change : SlotChange)
    (r : RfsChannel) : (followChange active change r).request = r.request := by
  cases change <;> rfl

/-- A channel's references with its request cancelled when the class of its change asks so (R36). -/
def cancelFor (change : SlotChange) (r : RfsChannel) : RfsChannel :=
  if cancels change then { r with request := .none } else r

/-- A channel's count of cancelled requests after a change (R36). -/
def countCancelled (change : SlotChange) (r : RfsChannel) (k : ChannelCounters) : ChannelCounters :=
  if cancels change && r.request.isSome then
    { k with requestsCancelled := inc32 k.requestsCancelled }
  else k

theorem renewReference_eq (c : Fin 8) (s : State) : s.renewReference c =
    s.rfsChannel c (followChange s.tbs.active.channels[c] .newlyEnabled) := by
  simp only [State.renewReference, setBacklog_quiet (n := 8) (fun _ => by decide), State.reloadInterval,
    rfsChannel_rfsChannel]
  rfl

/-- A cancellation drops the request, withdraws a QUEUED one's frame and counts (R36). -/
theorem cancel_some {s : State} {c : Fin 8} {q : Request} (h : s.rfs.channels[c].request = .some q) :
    s.cancel c =
      { (s.dropRequest c).tallyChannel c fun k =>
          { k with requestsCancelled := inc32 k.requestsCancelled } with
        ali.outQueue := match q.phase with
          | .queued => s.ali.outQueue.eraseP (AOut.isRequestOf c)
          | .sent _ => s.ali.outQueue } := by
  have h : (s.ref c).request = .some q := h
  simp only [State.cancel, h]
  cases q.phase <;> rfl

theorem cancel_none {s : State} {c : Fin 8} (h : s.rfs.channels[c].request = .none) :
    s.cancel c = s := by
  have h : (s.ref c).request = .none := h
  simp only [State.cancel, h]

theorem cancel_get (c d : Fin 8) (s : State) : (s.cancel c).rfs.channels[d] =
    if c = d then { s.rfs.channels[c] with request := .none } else s.rfs.channels[d] := by
  cases h : s.rfs.channels[c].request with
  | none =>
    rw [cancel_none h]
    by_cases hd : c = d
    · subst hd; rw [if_pos rfl, ← h]
    · rw [if_neg hd]
  | some q => rw [cancel_some h]; exact dropRequest_get c d s

theorem cancel_counters_get (c d : Fin 8) (s : State) : (s.cancel c).counters.channels[d] =
    if c = d then
      if s.rfs.channels[c].request.isSome then
        { s.counters.channels[c] with
          requestsCancelled := inc32 s.counters.channels[c].requestsCancelled }
      else s.counters.channels[c]
    else s.counters.channels[d] := by
  cases h : s.rfs.channels[c].request with
  | none =>
    rw [cancel_none h]
    by_cases hd : c = d
    · subst hd; rw [if_pos rfl]; rfl
    · rw [if_neg hd]
  | some q =>
    rw [cancel_some h]
    exact tallyChannel_get c d (fun k => { k with requestsCancelled := inc32 k.requestsCancelled })
      (s.dropRequest c)

/-- A channel's change in the RFS: a cancellation where its class has one, and one change of the
channel. -/
theorem applyReferenceChange_eq (c : Fin 8) (h : SlotChange) (s : State) :
    s.applyReferenceChange c h =
      (if cancels h then s.cancel c else s).rfsChannel c (followChange s.tbs.active.channels[c] h) := by
  cases h with
  | unchanged => simp [State.applyReferenceChange, followChange, cancels, State.rfsChannel]
  | intervalChanged => rfl
  | newlyEnabled => exact renewReference_eq c s
  | referenceChanged =>
    show (s.cancel c).renewReference c = _
    rw [renewReference_eq, cancel_tbs]
    rfl
  | newlyDisabled =>
    simp only [State.applyReferenceChange, setBacklog_quiet (n := 0) (fun _ => by decide),
      rfsChannel_rfsChannel]
    rfl

theorem applyReferenceChange_get (c d : Fin 8) (h : SlotChange) (s : State) :
    (s.applyReferenceChange c h).rfs.channels[d] =
      if c = d then followChange s.tbs.active.channels[c] h (cancelFor h s.rfs.channels[c])
      else s.rfs.channels[d] := by
  rw [applyReferenceChange_eq, rfsChannel_get]
  by_cases hh : cancels h
  · simp only [hh, if_true, cancel_get, cancelFor]
    by_cases hd : c = d
    · simp only [hd, if_true]
    · simp only [hd, if_false]
  · simp only [hh, cancelFor]
    rfl

theorem applyReferenceChange_counters_get (c d : Fin 8) (h : SlotChange) (s : State) :
    (s.applyReferenceChange c h).counters.channels[d] =
      if c = d then countCancelled h s.rfs.channels[c] s.counters.channels[c]
      else s.counters.channels[d] := by
  rw [applyReferenceChange_eq, rfsChannel_counters]
  by_cases hh : cancels h
  · simp only [hh, if_true, cancel_counters_get, countCancelled, Bool.true_and]
  · simp only [hh, countCancelled, Bool.false_and, Bool.false_eq_true, if_false]
    by_cases hd : c = d
    · subst hd; rw [if_pos rfl]
    · rw [if_neg hd]

/-- The change report raises no flag: no backlog reaches 12 by it (R25). -/
@[simp] theorem applyReferenceChange_evu (c : Fin 8) (h : SlotChange) (s : State) :
    (s.applyReferenceChange c h).evu = s.evu := by
  rw [applyReferenceChange_eq, rfsChannel_evu]
  split
  · exact cancel_evu c s
  · rfl

@[simp] theorem applyReferenceChange_counters_tbs (c : Fin 8) (h : SlotChange) (s : State) :
    (s.applyReferenceChange c h).counters.tbs = s.counters.tbs := by
  rw [applyReferenceChange_eq, rfsChannel_counters]
  split
  · cases hq : s.rfs.channels[c].request with
    | none => rw [cancel_none hq]
    | some q => rw [cancel_some hq]; rfl
  · rfl

/-! ### The A-out queue under the change report (R36) -/

/-- Every queued request frame is the one frame of a channel whose request is QUEUED. -/
structure FramesOwned (s : State) : Prop where
  once : ∀ c, s.ali.outQueue.countP (AOut.isRequestOf c) ≤ 1
  queued : ∀ c, ∀ a ∈ s.ali.outQueue, a.isRequestOf c = true →
    ∃ tag, s.rfs.channels[c].request = .some ⟨tag, .queued⟩

theorem isRequestOf_iff (c : Fin 8) (a : AOut) :
    a.isRequestOf c = true ↔ ∃ tag, a = .request c tag := by
  cases a with
  | request d tag => simp [AOut.isRequestOf]
  | relayed m => simp [AOut.isRequestOf]

theorem framesOwned_of_requestsQueued {s : State} (h : s.RequestsQueued) : FramesOwned s := by
  have queued : ∀ c tag, AOut.request c tag ∈ s.ali.outQueue →
      s.rfs.channels[c].request = .some ⟨tag, .queued⟩ := by
    intro c tag hm
    by_contra hn
    have none := h c tag
    rw [if_neg hn, List.count_eq_zero] at none
    exact none hm
  constructor
  · intro c
    by_cases hc : ∃ a ∈ s.ali.outQueue, a.isRequestOf c = true
    · obtain ⟨a, hm, ha⟩ := hc
      obtain ⟨tag, rfl⟩ := (isRequestOf_iff c a).mp ha
      have one := h c tag
      rw [if_pos (queued c tag hm)] at one
      refine le_of_eq (Eq.trans (List.countP_congr ?_) one)
      intro b hb
      simp only [isRequestOf_iff, beq_iff_eq]
      constructor
      · rintro ⟨tag', rfl⟩
        have := (queued c tag hm).symm.trans (queued c tag' hb)
        simp_all
      · rintro rfl
        exact ⟨tag, rfl⟩
    · rw [List.countP_eq_zero.mpr (by simpa using hc)]
      exact Nat.zero_le 1
  · intro c a hm ha
    obtain ⟨tag, rfl⟩ := (isRequestOf_iff c a).mp ha
    exact ⟨tag, queued c tag hm⟩

/-- Where one element at most has `p`, erasing the first is filtering them out. -/
theorem eraseP_eq_filter {α : Type} {p : α → Bool} {l : List α} (h : l.countP p ≤ 1) :
    l.eraseP p = l.filter fun a => !p a := by
  induction l with
  | nil => rfl
  | cons a l ih =>
    by_cases ha : p a = true
    · rw [List.countP_cons_of_pos ha] at h
      have none : ∀ b ∈ l, ¬ p b = true := List.countP_eq_zero.mp (by omega)
      rw [List.eraseP_cons_of_pos ha, List.filter_cons_of_neg (by simp [ha]),
        List.filter_eq_self.mpr (by simpa using none)]
    · rw [List.countP_cons_of_neg ha] at h
      rw [List.eraseP_cons_of_neg ha, List.filter_cons_of_pos (by simp [ha]), ih h]

/-- A cancellation takes the channel's request frames out of the queue, and nothing else. -/
theorem cancel_ali {s : State} (h : FramesOwned s) (c : Fin 8) : (s.cancel c).ali =
    { s.ali with outQueue := s.ali.outQueue.filter fun a => !a.isRequestOf c } := by
  have stands : (∀ tag, s.rfs.channels[c].request ≠ .some ⟨tag, .queued⟩) →
      (s.ali.outQueue.filter fun a => !a.isRequestOf c) = s.ali.outQueue := by
    intro hn
    refine List.filter_eq_self.mpr fun a ha => ?_
    by_contra hc
    obtain ⟨tag, ht⟩ := h.queued c a ha (by simpa using hc)
    exact hn tag ht
  rcases hq : s.rfs.channels[c].request with _ | ⟨tag, _ | timeout⟩
  · rw [cancel_none hq, stands fun _ ht => by rw [hq] at ht; cases ht]
  · rw [cancel_some hq]
    show { s.ali with outQueue := s.ali.outQueue.eraseP (AOut.isRequestOf c) } = _
    rw [eraseP_eq_filter (h.once c)]
  · rw [cancel_some hq, stands fun _ ht => by rw [hq] at ht; cases ht]
    rfl

theorem applyReferenceChange_ali {s : State} (h : FramesOwned s) (c : Fin 8) (change : SlotChange) :
    (s.applyReferenceChange c change).ali = { s.ali with
      outQueue := s.ali.outQueue.filter fun a => !(cancels change && a.isRequestOf c) } := by
  rw [applyReferenceChange_eq, rfsChannel_ali]
  by_cases hh : cancels change
  · simp only [hh, if_true, cancel_ali h, Bool.true_and]
  · simp [hh]

theorem applyReferenceChange_owned {s : State} (h : FramesOwned s) (c : Fin 8)
    (change : SlotChange) : FramesOwned (s.applyReferenceChange c change) := by
  have queue := congrArg (·.outQueue) (applyReferenceChange_ali h c change)
  dsimp only at queue
  constructor
  · intro d
    rw [queue]
    exact (List.filter_sublist.countP_le).trans (h.once d)
  · intro d a ha hd
    rw [queue, List.mem_filter] at ha
    obtain ⟨ha, kept⟩ := ha
    obtain ⟨tag, ht⟩ := h.queued d a ha hd
    refine ⟨tag, ?_⟩
    rw [applyReferenceChange_get]
    by_cases hc : c = d
    · subst hc
      have stays : cancels change = false := by simpa [hd] using kept
      simpa [cancelFor, stays] using ht
    · rw [if_neg hc]; exact ht

end Sys2Proof.Proofs
end

section
/-! PROOFS. ACTIVATE with no shell in the ring (O47): everything an application of the staged set does,
said once, and the command. -/

namespace Sys2Proof.Proofs

open Sys2Proof.Machine Sys2Proof.Laws

/-! ### The change report (R139) -/

/-- The class of a slot when the staged set replaces the active set. -/
def stagedChange (s : State) (c : Fin 8) : SlotChange :=
  slotChange s.tbs.active.channels[c] s.tbs.staged.channels[c]

/-- The state once the ETU and the RFS took the change report, before any examination (R38). -/
def followed (s : State) : State :=
  forChannels (fun c t => t.applyReferenceChange c (stagedChange s c))
    (s.replaceActive.reportToEtu s.tbs.active)

/-- A field that no reference change touches stands under the change report. -/
theorem followed_keeps {α : Type} (g : State → α)
    (h : ∀ c change t, g (t.applyReferenceChange c change) = g t) (s : State) :
    g (followed s) = g (s.replaceActive.reportToEtu s.tbs.active) :=
  forChannels_keeps g _ (fun _ _ => h _ _ _) _

@[simp] theorem followed_tbs (s : State) : (followed s).tbs = s.tbs.applied := by
  rw [followed_keeps (·.tbs) (by simp), reportToEtu_tbs]; rfl

@[simp] theorem followed_tru (s : State) : (followed s).tru = s.tru := by
  rw [followed_keeps (·.tru) (by simp)]; simp

@[simp] theorem followed_scs (s : State) : (followed s).scs = s.scs := by
  rw [followed_keeps (·.scs) (by simp)]; simp

@[simp] theorem followed_pins (s : State) : (followed s).pins = s.pins := by
  rw [followed_keeps (·.pins) (by simp)]; simp

@[simp] theorem followed_evu (s : State) : (followed s).evu = s.evu := by
  rw [followed_keeps (·.evu) (by simp)]; simp

@[simp] theorem followed_counters_tbs (s : State) :
    (followed s).counters.tbs = s.counters.tbs := by
  rw [followed_keeps (·.counters.tbs) (by simp), reportToEtu_counters, replaceActive_counters]

theorem followed_etu (s : State) (i : Fin 8) :
    (followed s).etu[i] = s.etu[i].applyChange (stagedChange s i) := by
  rw [followed_keeps (·.etu) (by simp)]
  exact forChannels_get (fun _ => ()) (fun t d => t.etu[d])
    (fun _ c e => e.applyChange (stagedChange s c)) _ (fun _ _ => rfl)
    (fun c d t => etuChannel_get c d _ t) s.replaceActive i

/-- Each channel's references, and its count of cancelled requests, follow the class of its change. -/
theorem followed_channel (s : State) (i : Fin 8) :
    (followed s).rfs.channels[i] = followChange s.tbs.staged.channels[i] (stagedChange s i)
      (cancelFor (stagedChange s i) s.rfs.channels[i]) ∧
    (followed s).counters.channels[i] =
      countCancelled (stagedChange s i) s.rfs.channels[i] s.counters.channels[i] := by
  have both := forChannels_get (·.tbs) (fun t d => (t.rfs.channels[d], t.counters.channels[d]))
    (fun tbs c x => (followChange tbs.active.channels[c] (stagedChange s c)
      (cancelFor (stagedChange s c) x.1), countCancelled (stagedChange s c) x.1 x.2))
    (fun c t => t.applyReferenceChange c (stagedChange s c)) (by simp) (by
      intro c d t
      rw [applyReferenceChange_get, applyReferenceChange_counters_get]
      by_cases h : c = d
      · subst h; simp only [if_true]
      · simp only [h, if_false])
    (s.replaceActive.reportToEtu s.tbs.active) i
  simp only [reportToEtu_rfs, reportToEtu_tbs, reportToEtu_counters] at both
  exact Prod.mk.inj both

/-- The request frames of the channels whose request is cancelled leave the A-out queue. -/
theorem followed_ali {s : State} (h : FramesOwned s) : (followed s).ali = { s.ali with
    outQueue := s.ali.outQueue.filter fun a =>
      allChannels.all fun c => !(cancels (stagedChange s c) && a.isRequestOf c) } := by
  have all : ∀ (l : List (Fin 8)) (t : State), FramesOwned t →
      (l.foldl (fun t c => t.applyReferenceChange c (stagedChange s c)) t).ali = { t.ali with
        outQueue := t.ali.outQueue.filter fun a =>
          l.all fun c => !(cancels (stagedChange s c) && a.isRequestOf c) } := by
    intro l
    induction l with
    | nil => intro t _; simp
    | cons c l ih =>
      intro t ht
      rw [List.foldl_cons, ih _ (applyReferenceChange_owned ht _ _),
        applyReferenceChange_ali ht, List.filter_filter]
      simp only [List.all_cons, Bool.and_comm]
  have start : FramesOwned (s.replaceActive.reportToEtu s.tbs.active) :=
    ⟨by simpa using h.once, by simpa using h.queued⟩
  exact (all allChannels _ start).trans (by simp)

/-! ### The detector and the mode -/

theorem applyDetectorChange_eq (before : Option LineSetup) (s : State) :
    s.applyDetectorChange before = { s with tru := (s.applyDetectorChange before).tru } := by
  unfold State.applyDetectorChange State.startDeparture
  repeat' split
  all_goals rfl

/-- The Tracking Unit after a change of the line setup (R64). -/
theorem applyDetectorChange_tru (before : Option LineSetup) (s : State) :
    (s.applyDetectorChange before).tru = { s.tru with
      debounce := if before.map (·.polarity) = s.line.map (·.polarity) then s.tru.debounce
        else if s.rawLevel = s.tru.detectorLevel then .none
        else .some (s.lineField (·.debounce)) } := by
  unfold State.applyDetectorChange
  by_cases hp : before.map (·.polarity) = s.line.map (·.polarity)
  · rw [if_neg (not_not_intro hp), if_pos hp]
  · rw [if_pos hp, if_neg hp]
    unfold State.startDeparture
    by_cases hl : s.rawLevel = s.tru.detectorLevel
    · rw [if_neg (fun h => h.1 hl), if_pos hl]
    · rw [if_pos ⟨hl, rfl⟩, if_neg hl]
      rfl

/-- What became of the detector reads the same wherever the line and the line setup do (R60, R64). -/
theorem detectorFollows_congr {s t : State} {before : Option LineSetup} {d : Tru}
    (htru : t.tru = s.tru) (hpins : t.pins = s.pins) (htbs : t.tbs = s.tbs)
    (h : s.DetectorFollows before d) : t.DetectorFollows before d := by
  have line : t.line = s.line := congrArg (·.active.line) htbs
  have level : t.rawLevel = s.rawLevel := by simp only [State.rawLevel, line, hpins]
  have field : t.lineField (·.debounce) = s.lineField (·.debounce) := by
    simp only [State.lineField, line]
  unfold State.DetectorFollows at h ⊢
  rw [htru, level, field, htbs]
  exact h

theorem applyDetectorChange_follows (before : Option LineSetup) (s : State) :
    (s.applyDetectorChange before).DetectorFollows before s.tru := by
  have h : ({ s with tru := (s.applyDetectorChange before).tru } : State).DetectorFollows before
      s.tru := applyDetectorChange_tru before s
  rwa [← applyDetectorChange_eq] at h

/-- The SCS after an application: UNCONFIGURED becomes STANDBY (R146). -/
def leftUnconfigured (scs : Scs) : Scs :=
  if scs.mode = .unconfigured then
    { scs with mode := .standby, parkRequest := false, drainTimer := .none }
  else scs

/-- Leaving UNCONFIGURED is its change of mode and an examination. -/
theorem leaveUnconfigured_examined (s : State) :
    Examined { s with scs := leftUnconfigured s.scs } s.leaveUnconfigured := by
  unfold State.leaveUnconfigured leftUnconfigured
  split
  · exact examine_examined _
  · exact .refl s

theorem leaveUnconfigured_noneOwed {s : State} (h : s.NoneOwed) : s.leaveUnconfigured.NoneOwed := by
  unfold State.leaveUnconfigured
  split
  · exact examine_noneOwed _
  · exact h

/-- An examination reads and leaves alike whatever the detector and the mode become after it. -/
theorem examined_retimed {s t : State} (h : Examined s t) (tru : Tru) (scs : Scs) :
    Examined { s with tru := tru, scs := scs } { t with tru := tru, scs := scs } :=
  ⟨h.issues, h.queue, h.drainReports, h.counters, h.issued,
    congrArg (fun u : State => { u with tru := tru, scs := scs }) h.rest⟩

/-- An examination issues nothing for a channel that is not enabled (R29). -/
theorem examine_disabled {s : State} {i : Fin 8} (h : s.enabled i = false) :
    s.examine.rfs.channels[i] = s.rfs.channels[i] := by
  have all : ∀ (l : List (Fin 8)) (t : State), t.enabled i = false →
      (l.foldl (fun t c => examineOne c t) t).rfs.channels[i] = t.rfs.channels[i] := by
    intro l
    induction l with
    | nil => intro t _; rfl
    | cons c l ih =>
      intro t ht
      have tables := (examineOne_examined c t).blocks.2.2.2.2.1
      rw [List.foldl_cons, ih _ ((enabled_congr (by rw [tables]) i).trans ht), examineOne_get]
      refine if_neg fun ⟨hc, hm⟩ => ?_
      subst hc
      rw [(mayIssue_request hm).1] at ht
      cases ht
  rw [examine_eq, forChannels]
  exact all allChannels s h

theorem leaveUnconfigured_disabled {s : State} {i : Fin 8} (h : s.enabled i = false) :
    s.leaveUnconfigured.rfs.channels[i] = s.rfs.channels[i] := by
  unfold State.leaveUnconfigured
  split
  · rw [State.toMode, examine_disabled]
    exact (enabled_congr rfl i).trans h
  · rfl

/-! ### The application, said once (R137) -/

/-- Everything an application of the staged set in `s` makes of it: per channel the references, the ETU's
place and the count of cancelled requests under the class of the slot's change (R139), and the A-out
queue, the tables, the mode, the detector and the flags. -/
structure Applied (s t : State) : Prop where
  channel : ∀ i : Fin 8,
    let r := followChange s.tbs.staged.channels[i] (stagedChange s i)
      (cancelFor (stagedChange s i) s.rfs.channels[i])
    t.rfs.channels[i].backlog = r.backlog ∧ t.rfs.channels[i].refState = r.refState ∧
      t.rfs.channels[i].interval = r.interval ∧ IssuedOver r.request t.rfs.channels[i].request
  disabled : ∀ i : Fin 8, enabledEntry s.tbs.staged.channels[i] = .none →
    t.rfs.channels[i] = followChange s.tbs.staged.channels[i] (stagedChange s i)
      (cancelFor (stagedChange s i) s.rfs.channels[i])
  etu : ∀ i : Fin 8, t.etu[i] = s.etu[i].applyChange (stagedChange s i)
  cancelled : ∀ i : Fin 8, t.counters.channels[i].requestsCancelled =
    (countCancelled (stagedChange s i) s.rfs.channels[i] s.counters.channels[i]).requestsCancelled
  queue : FramesOwned s → ∃ l, (∀ a ∈ l, AOut.isRequest a = true) ∧ t.ali = { s.ali with
    outQueue := (s.ali.outQueue.filter fun a =>
      allChannels.all fun c => !(cancels (stagedChange s c) && a.isRequestOf c)) ++ l }
  tbs : t.tbs = s.tbs.applied
  scs : t.scs = leftUnconfigured s.scs
  detector : t.DetectorFollows s.tbs.active.line s.tru
  raised : t.flag .tablesActivated = (s.flag .tablesActivated).occur .none
  flag : ∀ g, g ≠ .tablesActivated → t.flag g = s.flag g
  applied : t.counters.tbs.activationsApplied = inc32 s.counters.tbs.activationsApplied
  noneOwed : t.NoneOwed

/-- An examination, the detector's change and the leaving of UNCONFIGURED are together an examination of
the state with the detector and the mode they give. -/
theorem settled_examined {a x : State} (h : Examined a x) (before : Option LineSetup) :
    Examined
      { a with tru := (x.applyDetectorChange before).tru, scs := leftUnconfigured a.scs }
      (x.applyDetectorChange before).leaveUnconfigured := by
  have mode : x.scs = a.scs := h.blocks.2.2.2.1
  have second := leaveUnconfigured_examined (x.applyDetectorChange before)
  rw [applyDetectorChange_scs, mode] at second
  refine (examined_retimed h _ _).trans ?_
  have state := congrArg (fun u : State => { u with scs := leftUnconfigured a.scs })
    (applyDetectorChange_eq before x)
  dsimp only at state
  rwa [state] at second

/-- The state once the tables, the references, the detector and the mode follow the staged set. -/
def settled (s : State) : State :=
  ((followed s).examine.applyDetectorChange s.tbs.active.line).leaveUnconfigured

theorem applyActivation_eq (s : State) : s.applyActivation =
    ((settled s).raise .tablesActivated .none).tally fun k =>
      { k with tbs.activationsApplied := inc32 k.tbs.activationsApplied } := by
  unfold State.applyActivation State.reportToRfs State.changeOf
  simp only [reportToEtu_tbs]
  rfl

theorem settled_of_followed (s : State) : Examined
    { followed s with
      tru := ((followed s).examine.applyDetectorChange s.tbs.active.line).tru
      scs := leftUnconfigured s.scs } (settled s) := by
  have h := settled_examined (examine_examined (followed s)) s.tbs.active.line
  rwa [followed_scs] at h

theorem settled_noneOwed (s : State) : (settled s).NoneOwed :=
  leaveUnconfigured_noneOwed
    (noneOwed_congr (by simp) (by simp) (by simp) (by simp) (examine_noneOwed (followed s)))

theorem settled_disabled {s : State} {i : Fin 8}
    (h : enabledEntry s.tbs.staged.channels[i] = .none) :
    (settled s).rfs.channels[i] = (followed s).rfs.channels[i] := by
  have off : (followed s).enabled i = false := by
    simp only [State.enabled, State.entry, followed_tbs, applied_active, h, Option.isSome_none]
  rw [settled, leaveUnconfigured_disabled ((enabled_congr (by simp) i).trans off),
    applyDetectorChange_rfs, examine_disabled off]

theorem settled_detector (s : State) : (settled s).DetectorFollows s.tbs.active.line s.tru := by
  have h := applyDetectorChange_follows s.tbs.active.line (followed s).examine
  rw [examine_tru, followed_tru] at h
  exact detectorFollows_congr (by simp [settled]) (by simp [settled]) (by simp [settled]) h

theorem applyActivation_applied (s : State) : Applied s s.applyActivation := by
  have examined := settled_of_followed s
  obtain ⟨evu, etu, -, scs, tbs, sameOutside⟩ := examined.blocks
  have tbs : (settled s).tbs = s.tbs.applied := tbs.trans (followed_tbs s)
  have flag : ∀ g, (settled s).flag g = s.flag g :=
    flag_congr (congrArg (·.flags) (evu.trans (followed_evu s)))
  rw [applyActivation_eq]
  constructor
  case channel =>
    intro i
    rw [tally_rfs, raise_rfs, ← (followed_channel s i).1]
    exact examined.issues i
  case disabled =>
    intro i hi
    rw [tally_rfs, raise_rfs, settled_disabled hi, (followed_channel s i).1]
  case etu =>
    intro i
    rw [tally_etu, raise_etu, etu]
    exact followed_etu s i
  case cancelled =>
    intro i
    show ((settled s).raise .tablesActivated .none).counters.channels[i].requestsCancelled = _
    rw [raise_counters_channels, examined.issued i, ← (followed_channel s i).2]
  case queue =>
    intro owned
    obtain ⟨l, queue, requests⟩ := examined.queue
    refine ⟨l, requests, ?_⟩
    rw [tally_ali, raise_ali, queue]
    show { (followed s).ali with outQueue := (followed s).ali.outQueue ++ l } = _
    rw [followed_ali owned]
  case tbs => rw [tally_tbs, raise_tbs, tbs]
  case scs => rw [tally_scs, raise_scs, scs]
  case detector =>
    exact detectorFollows_congr (by simp) (by simp) (by simp) (settled_detector s)
  case raised => exact (raise_flag_same .tablesActivated .none _).trans (by rw [flag])
  case flag => exact fun g hg => (raise_flag_other hg .none _).trans (flag g)
  case applied =>
    show inc32 ((settled s).raise .tablesActivated .none).counters.tbs.activationsApplied = _
    rw [raise_counters_tbs, examined.counters]
    exact congrArg (fun k : TbsCounters => inc32 k.activationsApplied) (followed_counters_tbs s)
  case noneOwed =>
    exact noneOwed_congr (by simp) (by simp) (by simp) (by simp) (settled_noneOwed s)

end Sys2Proof.Proofs
end

section
/-! PROOFS. The command ACTIVATE (O47), and what the change report comes to for each pair of entries of a
slot. -/

namespace Sys2Proof.Proofs

open Sys2Proof.Machine Sys2Proof.Laws

/-! ### The class of a slot, by its two entries (R139) -/

section
variable {before after : Option ChannelEntry} {a b : ChannelEntry}

theorem slotChange_absent (hb : enabledEntry before = .none) (ha : enabledEntry after = .none) :
    slotChange before after = .unchanged := by simp only [slotChange, hb, ha]

theorem slotChange_enabled (hb : enabledEntry before = .none) (ha : enabledEntry after = .some b) :
    slotChange before after = .newlyEnabled := by simp only [slotChange, hb, ha]

theorem slotChange_disabled (hb : enabledEntry before = .some a) (ha : enabledEntry after = .none) :
    slotChange before after = .newlyDisabled := by simp only [slotChange, hb, ha]

theorem slotChange_renewed (hb : enabledEntry before = .some a) (ha : enabledEntry after = .some b)
    (h : a.referenceParameters ≠ b.referenceParameters) :
    slotChange before after = .referenceChanged := by simp only [slotChange, hb, ha, if_pos h]

theorem slotChange_kept (hb : enabledEntry before = .some a) (ha : enabledEntry after = .some b)
    (h : a.referenceParameters = b.referenceParameters) :
    slotChange before after = if a.refInterval ≠ b.refInterval then .intervalChanged
      else .unchanged := by
  simp only [slotChange, hb, ha, if_neg (not_not_intro h)]

end

/-- A slot that loses its outstanding request, by its two entries (R38). -/
def losesRequest (before after : Option ChannelEntry) : Bool :=
  match enabledEntry before, enabledEntry after with
  | .some _, .none => true
  | .some a, .some b => decide (a.referenceParameters ≠ b.referenceParameters)
  | .none, _ => false

theorem losesRequest_eq (before after : Option ChannelEntry) :
    losesRequest before after = cancels (slotChange before after) := by
  unfold losesRequest
  cases hb : enabledEntry before with
  | none =>
    cases ha : enabledEntry after with
    | none => rw [slotChange_absent hb ha]; rfl
    | some b => rw [slotChange_enabled hb ha]; rfl
  | some a =>
    cases ha : enabledEntry after with
    | none => rw [slotChange_disabled hb ha]; rfl
    | some b =>
      by_cases h : a.referenceParameters = b.referenceParameters
      · rw [slotChange_kept hb ha h]
        simp only [h, ne_eq, not_true_eq_false, decide_false]
        split <;> rfl
      · rw [slotChange_renewed hb ha h]
        simp only [h, ne_eq, not_false_eq_true, decide_true, cancels]

theorem cancelFor_request (change : SlotChange) (r : RfsChannel) :
    (cancelFor change r).request = if cancels change then .none else r.request := by
  unfold cancelFor; split <;> rfl

/-- A queued frame stays unless it is the request of a channel that loses it. -/
theorem frameStays_eq (loses : Fin 8 → Bool) (a : AOut) :
    (allChannels.all fun c => !(loses c && a.isRequestOf c)) =
      match a with
      | .request i _ => !loses i
      | .relayed _ => true := by
  cases a with
  | relayed m => simp [AOut.isRequestOf]
  | request i tag =>
    rw [Bool.eq_iff_iff, List.all_eq_true]
    simp only [AOut.isRequestOf, Bool.not_eq_true', Bool.and_eq_false_iff, beq_eq_false_iff_ne]
    constructor
    · exact fun h => (h i (mem_allChannels i)).resolve_right (not_not_intro rfl)
    · intro h c _
      by_cases hc : i = c
      · exact .inl (hc ▸ h)
      · exact .inr hc

/-! ### What the application makes of a channel (R36, R38) -/

section
variable {s t : State} (h : Applied s t) (i : Fin 8)
include h

theorem applied_absent (hb : enabledEntry s.tbs.active.channels[i] = .none)
    (ha : enabledEntry s.tbs.staged.channels[i] = .none) :
    t.rfs.channels[i] = s.rfs.channels[i] ∧ t.etu[i] = s.etu[i] := by
  rw [h.disabled i ha, h.etu i, stagedChange, slotChange_absent hb ha]
  exact ⟨rfl, rfl⟩

theorem applied_disabled {e : ChannelEntry} (hb : enabledEntry s.tbs.active.channels[i] = .some e)
    (ha : enabledEntry s.tbs.staged.channels[i] = .none) :
    t.rfs.channels[i] = .off ∧
      t.etu[i] = { s.etu[i] with prevSeq := .none, heldTemp := .none, holdAge := 0 } := by
  rw [h.disabled i ha, h.etu i, stagedChange, slotChange_disabled hb ha]
  exact ⟨rfl, rfl⟩

theorem applied_enabled {e : ChannelEntry} (hb : enabledEntry s.tbs.active.channels[i] = .none)
    (ha : enabledEntry s.tbs.staged.channels[i] = .some e) :
    t.rfs.channels[i].backlog = 8 ∧ t.rfs.channels[i].refState = .some ⟨e.rnom, true⟩ ∧
      t.rfs.channels[i].interval = .some e.refInterval ∧
      t.etu[i] = { s.etu[i] with prevSeq := .none, heldTemp := .none, holdAge := 0 } := by
  obtain ⟨backlog, refState, interval, -⟩ := h.channel i
  rw [stagedChange, slotChange_enabled hb ha] at backlog refState interval
  rw [backlog, refState, interval, h.etu i, stagedChange, slotChange_enabled hb ha, followChange, ha]
  exact ⟨rfl, rfl, rfl, rfl⟩

theorem applied_renewed {a b : ChannelEntry}
    (hb : enabledEntry s.tbs.active.channels[i] = .some a)
    (ha : enabledEntry s.tbs.staged.channels[i] = .some b)
    (hr : a.referenceParameters ≠ b.referenceParameters) :
    t.rfs.channels[i].backlog = 8 ∧ t.rfs.channels[i].refState = .some ⟨b.rnom, true⟩ ∧
      t.rfs.channels[i].interval = .some b.refInterval := by
  obtain ⟨backlog, refState, interval, -⟩ := h.channel i
  rw [stagedChange, slotChange_renewed hb ha hr] at backlog refState interval
  rw [backlog, refState, interval, followChange, ha]
  exact ⟨rfl, rfl, rfl⟩

theorem applied_kept {a b : ChannelEntry}
    (hb : enabledEntry s.tbs.active.channels[i] = .some a)
    (ha : enabledEntry s.tbs.staged.channels[i] = .some b)
    (hr : a.referenceParameters = b.referenceParameters) :
    t.rfs.channels[i].backlog = s.rfs.channels[i].backlog ∧
      t.rfs.channels[i].refState = s.rfs.channels[i].refState ∧
      t.rfs.channels[i].interval = (if a.refInterval ≠ b.refInterval then .some b.refInterval
        else s.rfs.channels[i].interval) := by
  obtain ⟨backlog, refState, interval, -⟩ := h.channel i
  rw [stagedChange, slotChange_kept hb ha hr] at backlog refState interval
  rw [backlog, refState, interval]
  split
  · rw [followChange, ha]; exact ⟨rfl, rfl, rfl⟩
  · exact ⟨rfl, rfl, rfl⟩

/-- A channel that stays enabled keeps its place in the ETU. -/
theorem applied_etu_kept {a b : ChannelEntry}
    (hb : enabledEntry s.tbs.active.channels[i] = .some a)
    (ha : enabledEntry s.tbs.staged.channels[i] = .some b) : t.etu[i] = s.etu[i] := by
  rw [h.etu i, stagedChange]
  by_cases hr : a.referenceParameters = b.referenceParameters
  · rw [slotChange_kept hb ha hr]; split <;> rfl
  · rw [slotChange_renewed hb ha hr]; rfl

theorem applied_request : IssuedOver
    (if losesRequest s.tbs.active.channels[i] s.tbs.staged.channels[i] then .none
      else s.rfs.channels[i].request) t.rfs.channels[i].request := by
  obtain ⟨-, -, -, request⟩ := h.channel i
  rwa [followChange_request, cancelFor_request, stagedChange, ← losesRequest_eq] at request

theorem applied_cancelled : t.counters.channels[i].requestsCancelled =
    (if losesRequest s.tbs.active.channels[i] s.tbs.staged.channels[i] = true ∧
        s.rfs.channels[i].request.isSome = true then
      inc32 s.counters.channels[i].requestsCancelled
    else s.counters.channels[i].requestsCancelled) := by
  rw [h.cancelled i, countCancelled, stagedChange, ← losesRequest_eq]
  simp only [Bool.and_eq_true]
  split <;> rfl

end

/-! ### The command -/

/-- ACTIVATE of a sound set with no shell in the ring: the set is applied and the reply says so
(R135). -/
theorem exec_activate_applies {s : State} {c : Command} {rest : List Command} (hw : s.Waits c rest)
    (hc : c.code = 0x07) (ha : c.args = []) (hp : s.tbs.activationPending = false)
    (hi : s.tbs.staged.inconsistency = .none) (hg : s.gauging = false) :
    let u := ({ s with cmu := { s.cmu with commands := rest } } : State).applyActivation
    exec .activate s = .next (s.reportDrained { u with
      cmu := { u.cmu with
        replies := u.cmu.replies ++
          [⟨c.tag, c.code, .done, be 1 1 ++ be 4 u.tbs.generation⟩] } }) := by
  have row : c.row = .activate := by simp only [Command.row, hc]; rfl
  show Host.Outcome.next (s.event _) = _
  rw [event_live hw.1, takeCommand_waits _ hw row]
  have idle : ({ s with cmu := { s.cmu with commands := rest } } : State).gauging = false := hg
  simp only [noArguments, ha, if_true, State.activate, hp, Bool.false_eq_true, if_false, hi, idle]

/-- Settles O47: the application said once (`Applied`), read for each channel by its two entries. -/
theorem activateAppliesTheStagedSet : Obligations.ActivateAppliesTheStagedSet := by
  unfold Obligations.ActivateAppliesTheStagedSet
  intro s c rest hw hc ha hp hi hg generation before after loses
  have step := exec_activate_applies hw hc ha hp hi hg
  have applied := applyActivation_applied { s with cmu := { s.cmu with commands := rest } }
  generalize hu : ({ s with cmu := { s.cmu with commands := rest } } : State).applyActivation = u
    at step applied
  have outside : u.rpb = s.rpb ∧ u.ldu = s.ldu ∧ u.mli = s.mli ∧ u.pins = s.pins ∧
      u.cmu = { s.cmu with commands := rest } := by
    rw [← hu]; simp
  obtain ⟨rpb, ldu, mli, pins, cmu⟩ := outside
  have channels : ∀ t : State, (s.reportDrained t).rfs.channels = t.rfs.channels :=
    fun t => reportDrained_channels t s
  refine ⟨_, step, ?_, ?_, ?_, ?_, fun g hg => ?_, ?_, fun i => ?_, fun owned => ?_, ?_, ?_, ?_, ?_,
    ?_, ?_, ?_, ?_⟩
  · rw [reportDrained_tbs]; exact applied.tbs
  · rw [reportDrained_cmu, cmu, applied.tbs]; rfl
  · rw [reportDrained_scs]; exact applied.scs
  · exact (flag_congr (by rw [reportDrained_evu]) _).trans applied.raised
  · exact (flag_congr (by rw [reportDrained_evu]) g).trans (applied.flag g hg)
  · rw [reportDrained_counters]; exact applied.applied
  · rw [reportDrained_etu, channels, reportDrained_counters]
    exact ⟨applied_absent applied i, fun _ hb ha => applied_disabled applied i hb ha,
      fun _ hb ha => applied_enabled applied i hb ha,
      fun _ _ hb ha => ⟨applied_etu_kept applied i hb ha, applied_renewed applied i hb ha,
        applied_kept applied i hb ha⟩,
      applied_request applied i, applied_cancelled applied i⟩
  · obtain ⟨l, requests, queue⟩ := applied.queue (framesOwned_of_requestsQueued owned)
    refine ⟨l, requests, ?_⟩
    rw [reportDrained_ali]
    refine queue.trans ?_
    simp only [stagedChange, ← losesRequest_eq, frameStays_eq]
    rfl
  · exact detectorFollows_congr (by simp) (by simp) (by simp) applied.detector
  · exact noneOwed_congr (by rw [channels]) (by simp) (by simp) (by simp) applied.noneOwed
  · rw [reportDrained_tru]; exact congrArg (·.lengthCounter) applied.detector
  · rw [reportDrained_tru]; exact congrArg (·.detectorLevel) applied.detector
  · rw [reportDrained_rpb]; exact rpb
  · rw [reportDrained_ldu]; exact ldu
  · rw [reportDrained_mli]; exact mli
  · rw [reportDrained_pins]; exact pins

end Sys2Proof.Proofs
end

section
/-! PROOFS. What an event makes of the references, said once: it keeps the backlogs in range, the
reference state with the enabled channels, the queued frames with the QUEUED requests, and leaves no
request owed (R22, R24, R29, R177). The operations of the Reference Scheduler. -/

namespace Sys2Proof.Proofs

open Sys2Proof.Machine Sys2Proof.Laws

/-! ### The three invariants kept, and no request owed -/

/-- From `s` to `t` the three invariants of the references are each kept. -/
structure Keeps (s t : State) : Prop where
  backlogs : s.BacklogsInRange → t.BacklogsInRange
  follow : s.ReferencesFollow → t.ReferencesFollow
  queued : s.RequestsQueued → t.RequestsQueued

/-- From `s` to `t` the invariants are kept, and no request comes to be owed. -/
structure Settles (s t : State) : Prop extends Keeps s t where
  owed : s.NoneOwed → t.NoneOwed

theorem Keeps.refl (s : State) : Keeps s s := ⟨id, id, id⟩

theorem Keeps.trans {s t u : State} (a : Keeps s t) (b : Keeps t u) : Keeps s u :=
  ⟨b.backlogs ∘ a.backlogs, b.follow ∘ a.follow, b.queued ∘ a.queued⟩

theorem Settles.refl (s : State) : Settles s s := ⟨.refl s, id⟩

theorem Settles.trans {s t u : State} (a : Settles s t) (b : Settles t u) : Settles s u :=
  ⟨a.toKeeps.trans b.toKeeps, b.owed ∘ a.owed⟩

/-- What each channel's change keeps, a walk over the channels keeps. -/
theorem Keeps.forChannels {f : Fin 8 → State → State} (h : ∀ c s, Keeps s (f c s)) (s : State) :
    Keeps s (forChannels f s) := by
  have all : ∀ (l : List (Fin 8)) s, Keeps s (l.foldl (fun s c => f c s) s) := by
    intro l
    induction l with
    | nil => exact Keeps.refl
    | cons c l ih => exact fun s => (h c s).trans (ih _)
  exact all allChannels s

/-! ### One channel's references -/

/-- What R22, R24 and R26 ask of a channel that is enabled, and of one that is not. -/
def Follows (enabled : Bool) (r : RfsChannel) : Prop :=
  if enabled then r.refState.isSome = true ∧ r.interval.isSome = true else r = .off

/-- A change of a channel's references that keeps what R22, R24 and R26 ask of the channel. -/
structure Stays (enabled : Bool) (old new : RfsChannel) : Prop where
  backlog : old.backlog ≤ backlogMax → new.backlog ≤ backlogMax
  follows : Follows enabled old → Follows enabled new

/-- Such a change that leaves a QUEUED request, and makes none. -/
structure Worked (enabled : Bool) (old new : RfsChannel) : Prop extends Stays enabled old new where
  queued : ∀ tag, new.request = .some ⟨tag, .queued⟩ ↔ old.request = .some ⟨tag, .queued⟩

theorem Stays.refl (enabled : Bool) (r : RfsChannel) : Stays enabled r r := ⟨id, id⟩

theorem Worked.refl (enabled : Bool) (r : RfsChannel) : Worked enabled r r :=
  ⟨.refl enabled r, fun _ => Iff.rfl⟩

/-- Channels that stay, under the same active channels, keep the invariants when the queue keeps its
own. -/
theorem Keeps.of_stays {s t : State} (ht : t.tbs.active.channels = s.tbs.active.channels)
    (h : ∀ c : Fin 8, Stays (s.enabled c) s.rfs.channels[c] t.rfs.channels[c])
    (hq : s.RequestsQueued → t.RequestsQueued) : Keeps s t where
  backlogs hb c := (h c).backlog (hb c)
  follow hf c := by
    have new := (h c).follows (hf c)
    rwa [← enabled_congr ht c] at new
  queued := hq

/-- Channels worked one by one, under the same active channels and the same A-out queue, keep the
invariants. -/
theorem Keeps.of_worked {s t : State} (ht : t.tbs.active.channels = s.tbs.active.channels)
    (hq : t.ali.outQueue = s.ali.outQueue)
    (h : ∀ c : Fin 8, Worked (s.enabled c) s.rfs.channels[c] t.rfs.channels[c]) : Keeps s t := by
  refine .of_stays ht (fun c => (h c).toStays) fun hr c tag => ?_
  rw [hq, hr c tag]
  simp only [(h c).queued tag]

/-- What the invariants do not read may change. -/
theorem Keeps.of_unread {s t : State} (hr : t.rfs.channels = s.rfs.channels)
    (hq : t.ali.outQueue = s.ali.outQueue)
    (ht : t.tbs.active.channels = s.tbs.active.channels) : Keeps s t :=
  .of_worked ht hq fun c => by rw [hr]; exact .refl _ _

/-- What neither the invariants nor R29 read may change. -/
theorem Settles.of_unread {s t : State} (hr : t.rfs.channels = s.rfs.channels) (ha : t.ali = s.ali)
    (hm : t.scs.mode = s.scs.mode) (ht : t.tbs.active = s.tbs.active) : Settles s t :=
  ⟨.of_unread hr (by rw [ha]) (by rw [ht]), noneOwed_congr hr ha hm ht⟩

/-- What follows a change that the invariants do not read. -/
theorem Keeps.after_unread {s t u : State} (h : Keeps t u)
    (hr : t.rfs.channels = s.rfs.channels) (hq : t.ali.outQueue = s.ali.outQueue)
    (ht : t.tbs.active.channels = s.tbs.active.channels) : Keeps s u :=
  (Keeps.of_unread hr hq ht).trans h

/-- What follows a change that neither the invariants nor R29 read. -/
theorem Settles.after_unread {s t u : State} (h : Settles t u)
    (hr : t.rfs.channels = s.rfs.channels) (ha : t.ali = s.ali) (hm : t.scs.mode = s.scs.mode)
    (ht : t.tbs.active = s.tbs.active) : Settles s u :=
  (Settles.of_unread hr ha hm ht).trans h

/-! ### The examination -/

/-- A request issued is QUEUED, and its frame is in the queue once (R28, R177). -/
theorem issue_keeps {c : Fin 8} {s : State} (h : s.mayIssue c = true) : Keeps s (s.issue c) := by
  obtain ⟨on, -, free, -, -⟩ := mayIssue_request h
  refine .of_stays (by rw [issue_tbs]) (fun d => ?_) fun hr d tag => ?_
  · rw [issue_channels, rfsChannel_get]
    by_cases hd : c = d
    · subst hd
      rw [if_pos rfl, on]
      exact ⟨id, id⟩
    · rw [if_neg hd]; exact .refl _ _
  · rw [issue_channels, rfsChannel_get]
    show (s.ali.outQueue ++ [AOut.request c s.rfs.tagCounter]).count (.request d tag) = _
    rw [List.count_append, hr d tag, List.count_singleton]
    by_cases hd : c = d
    · subst hd
      rw [free]
      simp
    · simp [hd]

theorem examine_keeps (s : State) : Keeps s s.examine := by
  rw [examine_eq]
  refine Keeps.forChannels (fun c t => ?_) s
  unfold examineOne
  split
  · next h => exact issue_keeps h
  · exact .refl t

/-- After an examination nothing is owed, whatever came before it. -/
theorem Keeps.examined {s t : State} (h : Keeps s t) : Settles s t.examine :=
  ⟨h.trans (examine_keeps t), fun _ => examine_noneOwed t⟩

/-! ### The end of a request -/

/-- The invariants read a channel through `rfsChannel` as one worked channel. -/
theorem rfsChannel_keeps {c : Fin 8} {f : RfsChannel → RfsChannel} {s : State}
    (h : Worked (s.enabled c) s.rfs.channels[c] (f s.rfs.channels[c])) :
    Keeps s (s.rfsChannel c f) := by
  refine .of_worked (by simp) (by simp) fun d => ?_
  rw [rfsChannel_get]
  by_cases hd : c = d
  · subst hd; rw [if_pos rfl]; exact h
  · rw [if_neg hd]; exact .refl _ _

/-- A channel without a request follows wherever it did with one. -/
theorem follows_dropped {enabled : Bool} {r : RfsChannel} (h : Follows enabled r) :
    Follows enabled { r with request := .none } := by
  cases enabled with
  | true => exact h
  | false => have h : r = .off := h; subst h; rfl

/-- A request that is not QUEUED has no frame to withdraw. -/
theorem dropRequest_keeps {c : Fin 8} {s : State}
    (h : ∀ tag, s.rfs.channels[c].request ≠ .some ⟨tag, .queued⟩) : Keeps s (s.dropRequest c) :=
  rfsChannel_keeps ⟨⟨id, follows_dropped⟩, fun tag => iff_of_false nofun (h tag)⟩

/-- A cancellation withdraws the frame of a QUEUED request with the request (R36). -/
theorem cancel_keeps (c : Fin 8) (s : State) : Keeps s (s.cancel c) := by
  refine .of_stays (by rw [cancel_tbs]) (fun d => ?_) fun hr d tag => ?_
  · rw [cancel_get]
    by_cases hd : c = d
    · subst hd; rw [if_pos rfl]; exact ⟨id, follows_dropped⟩
    · rw [if_neg hd]; exact .refl _ _
  · rw [cancel_ali (framesOwned_of_requestsQueued hr), cancel_get]
    by_cases hd : c = d
    · subst hd
      rw [if_pos rfl, if_neg (by simp), List.count_eq_zero]
      simp [AOut.isRequestOf]
    · rw [if_neg hd, ← hr d tag]
      exact List.count_filter (by simp [AOut.isRequestOf, Ne.symm hd])

/-! ### Backlogs and interval counters -/

/-- A backlog from 0 to 15 is taken by an enabled channel. -/
theorem setBacklog_keeps {c : Fin 8} {n : Nat} {s : State}
    (hn : s.rfs.channels[c].backlog ≤ backlogMax → n ≤ backlogMax) (hc : s.enabled c = true) :
    Keeps s (s.setBacklog c n) := by
  refine .of_worked (by simp) (by simp) fun d => ?_
  rw [setBacklog_get]
  by_cases hd : c = d
  · subst hd; rw [if_pos rfl, hc]; exact ⟨⟨hn, id⟩, fun _ => Iff.rfl⟩
  · rw [if_neg hd]; exact .refl _ _

/-- An enabled channel has an interval to reload (R26). -/
theorem reloadInterval_keeps {c : Fin 8} {s : State} (hc : s.enabled c = true) :
    Keeps s (s.reloadInterval c) := by
  refine rfsChannel_keeps ⟨⟨id, fun h => ?_⟩, fun _ => Iff.rfl⟩
  rw [hc] at h ⊢
  obtain ⟨reference, -⟩ := h
  exact ⟨reference, Option.isSome_map.trans hc⟩

theorem leaveParked_keeps (s : State) : Keeps s s.leaveParked := by
  unfold State.leaveParked
  split
  · exact .refl s
  · refine Keeps.forChannels (fun c t => ?_) s
    split
    · next on =>
      have on' : (t.setBacklog c (max (t.ref c).backlog overdueFrom)).enabled c = true :=
        (enabled_congr (by simp) c).trans on
      refine (setBacklog_keeps (fun h => ?_) on).trans (reloadInterval_keeps on')
      exact max_le h (by decide)
    · exact .refl t

theorem reloadStopped_keeps (ran : Bool) (s : State) : Keeps s (s.reloadStopped ran) := by
  unfold State.reloadStopped
  split
  · exact .refl s
  · refine Keeps.forChannels (fun c t => ?_) s
    split
    · next on => exact reloadInterval_keeps on
    · exact .refl t

end Sys2Proof.Proofs
end

section
/-! PROOFS. What an event makes of the references: the expiries, the A-link, the application of the
staged set, the resets and the millisecond mark. -/

namespace Sys2Proof.Proofs

open Sys2Proof.Machine Sys2Proof.Laws

/-! ### What no invariant of the references reads -/

theorem tally_settles (f : Counters → Counters) (s : State) : Settles s (s.tally f) :=
  .of_unread rfl rfl rfl rfl

theorem tallyChannel_settles (c : Fin 8) (f : ChannelCounters → ChannelCounters) (s : State) :
    Settles s (s.tallyChannel c f) :=
  .of_unread rfl rfl rfl rfl

theorem etuChannel_settles (c : Fin 8) (f : EtuChannel → EtuChannel) (s : State) :
    Settles s (s.etuChannel c f) :=
  .of_unread rfl rfl rfl rfl

theorem shellAt_settles (i : Fin 4) (f : Shell → Shell) (s : State) : Settles s (s.shellAt i f) :=
  .of_unread rfl rfl rfl rfl

theorem raise_settles (f : Flag) (q : Option Nat) (s : State) : Settles s (s.raise f q) :=
  .of_unread (by simp) (by simp) (by simp) (by simp)

theorem finish_settles (c : Fin 8) (r : ShotRecord) (o : ShotOutcome) (times : EchoTimes)
    (s : State) :
    Settles s (s.finish c r o times) :=
  .of_unread (by simp) (by simp) (by simp) (by simp)

theorem discardFrame_settles (link : Link) (step : FrameStep) (s : State) :
    Settles s (s.discardFrame link step) :=
  .of_unread (by simp) (by simp) (by simp) (by simp)

theorem reportDrained_settles (before after : State) : Settles after (before.reportDrained after) :=
  .of_unread (by simp) (by simp) (by simp) (by simp)

/-- A change of mode is followed by an examination (R30). -/
theorem toMode_settles (m : Mode) (s : State) : Settles s (s.toMode m) :=
  (Keeps.of_unread rfl rfl rfl : Keeps s { s with scs.mode := m }).examined

/-! ### Expiries (R27, R35) -/

/-- A channel whose counter is present has its interval reloaded and one more owed: an enabled
channel, where the references follow (R26). -/
theorem intervalOut_settles (c : Fin 8) (s : State) : Settles s (s.intervalOut c) := by
  unfold State.intervalOut
  split
  · next h =>
    obtain ⟨present, -⟩ := Bool.and_eq_true_iff.mp h
    refine Keeps.examined (.of_worked (by simp) (by simp) fun d => ?_)
    rw [setBacklog_get, reloadInterval_get, reloadInterval_get]
    by_cases hd : c = d
    · subst hd
      simp only [if_true]
      refine ⟨⟨fun _ => min_le_right _ _, fun old => ?_⟩, fun _ => Iff.rfl⟩
      cases on : s.enabled c with
      | true =>
        rw [on] at old
        exact ⟨old.1, Option.isSome_map.trans on⟩
      | false =>
        rw [on] at old
        have off : s.ref c = .off := old
        rw [off] at present
        cases present
    · simp only [if_neg hd]
      exact .refl _ _
  · exact .refl s

theorem isSent_iff (r : RfsChannel) :
    r.isSent = true ↔ ∃ tag timeout, r.request = .some ⟨tag, .sent timeout⟩ := by
  unfold RfsChannel.isSent
  rcases r.request with _ | ⟨tag, _ | timeout⟩ <;> simp

/-- A request that was SENT is gone; no frame of it waits (R35). -/
theorem dropRequest_sent_keeps {c : Fin 8} {tag timeout : Nat} {s : State}
    (h : s.rfs.channels[c].request = .some ⟨tag, .sent timeout⟩) : Keeps s (s.dropRequest c) :=
  dropRequest_keeps fun _ => by rw [h]; simp

theorem requestOut_settles (c : Fin 8) (s : State) : Settles s (s.requestOut c) := by
  unfold State.requestOut
  split
  · next h =>
    obtain ⟨tag, timeout, sent⟩ := (isSent_iff _).mp h
    exact ((dropRequest_sent_keeps sent).trans
      ((raise_settles _ _ _).trans (tallyChannel_settles _ _ _)).toKeeps).examined
  · exact .refl s

/-! ### Reference records (R33, R34) -/

theorem rejectReference_settles {c : Fin 8} {r : ShotRecord} {s : State}
    (h : s.matchesRequest c r = true) (o : ShotOutcome) (times : EchoTimes) :
    Settles s (s.rejectReference c r o times) := by
  obtain ⟨timeout, sent⟩ := (matchesRequest_iff s c r).mp h
  exact ((dropRequest_sent_keeps sent).trans ((raise_settles _ _ _).trans
    ((tallyChannel_settles _ _ _).trans (finish_settles _ _ _ _ _))).toKeeps).examined

theorem acceptReference_settles {c : Fin 8} {r : ShotRecord} {s : State}
    (h : s.matchesRequest c r = true) (on : s.enabled c = true) (times : EchoTimes)
    (transit : Nat) : Settles s (s.acceptReference c r times transit) := by
  obtain ⟨timeout, sent⟩ := (matchesRequest_iff s c r).mp h
  rw [acceptReference_eq]
  have worked :
      Worked (s.enabled c) s.rfs.channels[c] (acceptedOver transit s.rfs.channels[c]) := by
    rw [on]
    exact ⟨⟨fun h => (Nat.sub_le _ _).trans h, fun h => ⟨rfl, h.2⟩⟩,
      fun _ => iff_of_false nofun (by rw [sent]; simp)⟩
  exact ((rfsChannel_keeps worked).trans
    ((tallyChannel_settles _ _ _).trans (finish_settles _ _ _ _ _)).toKeeps).examined

/-! ### The A-out queue (R177) -/

/-- The first element found is the one that erasing takes. -/
theorem eraseP_eq_erase {α : Type} [DecidableEq α] {p : α → Bool} {l : List α} {a : α}
    (h : l.find? p = .some a) : l.eraseP p = l.erase a := by
  induction l with
  | nil => cases h
  | cons b l ih =>
    by_cases hb : p b = true
    · rw [List.find?_cons_of_pos hb] at h
      cases h
      rw [List.eraseP_cons_of_pos hb, List.erase_cons_head]
    · rw [List.find?_cons_of_neg hb] at h
      have ha : b ≠ a := by
        rintro rfl
        exact hb (List.find?_some h)
      rw [List.eraseP_cons_of_neg hb, List.erase_cons_tail (by simpa using ha), ih h]

/-- A request whose frame is taken is SENT, and its frame has left the queue (R31). -/
theorem takeRequest_settles (s : State) : Settles s s.takeRequest := by
  unfold State.takeRequest
  split
  · next c tag h =>
    have first : s.ali.outQueue.eraseP AOut.isRequest = s.ali.outQueue.erase (.request c tag) :=
      eraseP_eq_erase h
    refine Keeps.examined (.of_stays rfl (fun d => ?_) fun hr d tag' => ?_)
    · rw [startA_rfs, rfsChannel_get]
      by_cases hd : c = d
      · subst hd
        rw [if_pos rfl]
        refine ⟨id, fun old => ?_⟩
        cases on : s.enabled c with
        | true => rw [on] at old; exact old
        | false =>
          rw [on] at old
          have off : s.rfs.channels[c] = .off := old
          show _ = _
          rw [off]
          rfl
      · rw [if_neg hd]; exact .refl _ _
    · have one := hr c tag
      have waits : s.rfs.channels[c].request = .some ⟨tag, .queued⟩ := by
        by_contra hn
        rw [if_neg hn, List.count_eq_zero] at one
        exact one (List.mem_of_find?_eq_some h)
      show (s.ali.outQueue.eraseP AOut.isRequest).count (.request d tag') = _
      rw [startA_rfs, rfsChannel_get, first, List.count_erase, hr d tag']
      by_cases hd : c = d
      · subst hd
        rw [if_pos rfl, waits]
        by_cases ht : tag = tag'
        · subst ht; simp
        · simp [ht]
      · simp [hd]
  · exact .refl s

/-- A queue with the same request frames keeps the invariants. -/
theorem Keeps.of_relayed {s t : State} (hr : t.rfs.channels = s.rfs.channels)
    (ht : t.tbs.active.channels = s.tbs.active.channels)
    (hq : ∀ c tag, t.ali.outQueue.count (.request c tag) =
      s.ali.outQueue.count (.request c tag)) : Keeps s t :=
  .of_stays ht (fun c => by rw [hr]; exact .refl _ _) fun h c tag => by rw [hq, hr]; exact h c tag

theorem takeRelayed_settles (s : State) : Settles s s.takeRelayed := by
  unfold State.takeRelayed
  split
  · next m rest h =>
    split
    · exact .refl s
    · refine Keeps.examined (.of_relayed rfl rfl fun c tag => ?_)
      rw [h, List.count_cons_of_ne (by simp)]
      rfl
  · exact .refl s

theorem offer_some {α : Type} {places : Nat} {x : α} {q q' : List α}
    (h : offer places x q = .some q') : q.length < places ∧ q' = q ++ [x] := by
  unfold offer at h
  split at h
  · next hq => exact ⟨hq, (Option.some.inj h).symm⟩
  · cases h

theorem offerRelayed_settles (f : Frame) (s : State) : Settles s (s.offerRelayed f) := by
  unfold State.offerRelayed
  split
  · next q h =>
    obtain ⟨-, rfl⟩ := offer_some h
    refine Keeps.examined (.of_relayed rfl rfl fun c tag => ?_)
    show (s.ali.outQueue ++ [AOut.relayed _]).count _ = _
    rw [List.count_append, List.count_singleton]
    simp
  · exact (tally_settles _ s).trans (raise_settles _ _ _)

/-! ### The A-link's lock (R37) -/

theorem loseALock_settles (partly : Bool) (s : State) : Settles s (s.loseALock partly) := by
  unfold State.loseALock
  split
  · refine Keeps.examined (Keeps.trans ?_ (Keeps.forChannels cancel_keeps _))
    unfold State.discardPartial State.changeALock
    split <;> exact .of_unread (by simp) (by simp) (by simp)
  · exact .refl s

theorem gainALock_settles (s : State) : Settles s s.gainALock := by
  unfold State.gainALock
  split
  · exact .refl s
  · exact Keeps.examined (.of_unread (by simp [State.changeALock]) (by simp [State.changeALock])
      (by simp [State.changeALock]))

/-! ### The application of the staged set (R38) -/

/-- The change report leaves a backlog in range (R38). -/
theorem followChange_backlog (active : Option ChannelEntry) (change : SlotChange) {r : RfsChannel}
    (h : r.backlog ≤ backlogMax) : (followChange active change r).backlog ≤ backlogMax := by
  cases change with
  | unchanged => exact h
  | intervalChanged => exact h
  | newlyEnabled => exact (by decide : 8 ≤ backlogMax)
  | referenceChanged => exact (by decide : 8 ≤ backlogMax)
  | newlyDisabled => exact Nat.zero_le _

/-- The change report takes a channel that follows its old entry to one that follows its new one. -/
theorem followChange_follows {before after : Option ChannelEntry} {r : RfsChannel}
    (h : Follows (enabledEntry before).isSome r) :
    Follows (enabledEntry after).isSome
      (followChange after (slotChange before after) (cancelFor (slotChange before after) r)) := by
  rcases hb : enabledEntry before with _ | a <;> rcases ha : enabledEntry after with _ | b <;>
    rw [hb] at h
  · rw [slotChange_absent hb ha]; exact h
  · rw [slotChange_enabled hb ha, followChange, ha]; exact ⟨rfl, rfl⟩
  · rw [slotChange_disabled hb ha]; rfl
  · by_cases hp : a.referenceParameters = b.referenceParameters
    · rw [slotChange_kept hb ha hp]
      split
      · rw [followChange, ha]; exact ⟨h.1, rfl⟩
      · exact h
    · rw [slotChange_renewed hb ha hp, followChange, ha]; exact ⟨rfl, rfl⟩

/-- The frames of the requests that a change cancels leave the queue, and no others. -/
theorem applyReferenceChange_queued {s : State} (h : s.RequestsQueued) (c : Fin 8)
    (change : SlotChange) : (s.applyReferenceChange c change).RequestsQueued := by
  have cancelled : (if cancels change then s.cancel c else s).RequestsQueued := by
    split
    · exact (cancel_keeps c s).queued h
    · exact h
  rw [applyReferenceChange_eq]
  intro d tag
  rw [rfsChannel_get]
  refine (cancelled d tag).trans ?_
  by_cases hd : c = d
  · subst hd; rw [if_pos rfl, followChange_request]
  · rw [if_neg hd]

theorem followed_keepsInvariants (s : State) : Keeps s (followed s) where
  backlogs h c := by
    rw [(followed_channel s c).1]
    refine followChange_backlog _ _ ?_
    unfold cancelFor
    split
    · exact h c
    · exact h c
  follow h c := by
    have new : Follows (s.tbs.applied.active.channels[c] |> enabledEntry).isSome _ :=
      followChange_follows (after := s.tbs.staged.channels[c]) (h c)
    show Follows ((followed s).enabled c) _
    rw [(followed_channel s c).1]
    rwa [← followed_tbs] at new
  queued h := by
    have all : ∀ (l : List (Fin 8)) (t : State), t.RequestsQueued →
        (l.foldl (fun t c => t.applyReferenceChange c (stagedChange s c)) t).RequestsQueued := by
      intro l
      induction l with
      | nil => exact fun _ ht => ht
      | cons c l ih => exact fun t ht => ih _ (applyReferenceChange_queued ht c _)
    refine all allChannels _ fun c tag => ?_
    simpa using h c tag

theorem leaveUnconfigured_settles (s : State) : Settles s s.leaveUnconfigured := by
  unfold State.leaveUnconfigured
  split
  · exact (toMode_settles _ _).after_unread rfl rfl rfl rfl
  · exact .refl s

theorem applyActivation_settles (s : State) : Settles s s.applyActivation := by
  rw [applyActivation_eq]
  have detector : Settles (followed s).examine
      ((followed s).examine.applyDetectorChange s.tbs.active.line) :=
    .of_unread (by simp) (by simp) (by simp) (by simp)
  exact (followed_keepsInvariants s).examined.trans (detector.trans
    ((leaveUnconfigured_settles _).trans ((raise_settles _ _ _).trans (tally_settles _ _))))

/-! ### The resets (R42, R183, R184) -/

/-- After a hard reset every channel is off, none is enabled and the A-link is out of lock. -/
theorem hardReset_meets {t : State} (hr : ∀ c : Fin 8, t.rfs.channels[c] = .off)
    (he : ∀ c, t.enabled c = false) (ha : t.ali = ⟨false, .none, []⟩) :
    t.BacklogsInRange ∧ t.ReferencesFollow ∧ t.RequestsQueued ∧ t.NoneOwed := by
  refine ⟨fun c => ?_, fun c => ?_, fun c tag => ?_, fun c => mayIssue_outOfLock (by rw [ha]) c⟩
  · rw [hr]; exact Nat.zero_le _
  · rw [if_neg (by rw [he]; exact Bool.false_ne_true), hr]
  · rw [ha, hr]; rfl

theorem off_get (c : Fin 8) : (Vector.replicate 8 RfsChannel.off)[c] = .off := by simp

theorem empty_disabled (c : Fin 8) : (enabledEntry TableSet.empty.channels[c]).isSome = false := by
  simp [TableSet.empty, enabledEntry]

theorem afterReset_meets (pending : List Instr) (pins : Pins) :
    let t := State.afterReset pending pins
    t.BacklogsInRange ∧ t.ReferencesFollow ∧ t.RequestsQueued ∧ t.NoneOwed :=
  hardReset_meets off_get empty_disabled rfl

theorem held_meets (s : State) : s.held.BacklogsInRange ∧ s.held.ReferencesFollow ∧
    s.held.RequestsQueued ∧ s.held.NoneOwed :=
  hardReset_meets off_get empty_disabled rfl

theorem Settles.of_meets {s t : State} (h : t.BacklogsInRange ∧ t.ReferencesFollow ∧
    t.RequestsQueued ∧ t.NoneOwed) : Settles s t := by
  obtain ⟨backlogs, follow, queued, owed⟩ := h
  exact ⟨⟨fun _ => backlogs, fun _ => follow, fun _ => queued⟩, fun _ => owed⟩

/-- Every channel's request dropped, one channel after another. -/
theorem dropAll_get (s : State) (c : Fin 8) : (forChannels State.dropRequest s).rfs.channels[c] =
    { s.rfs.channels[c] with request := .none } :=
  forChannels_get (fun _ => ()) (fun t d => t.rfs.channels[d])
    (fun _ _ r => { r with request := .none }) State.dropRequest (fun _ _ => rfl)
    dropRequest_get s c

/-- With every request dropped and the A-out queue empty, the invariants are kept. -/
theorem dropAll_keeps {s t : State} (hr : t.rfs.channels = s.rfs.channels)
    (hq : t.ali.outQueue = []) (ht : t.tbs.active.channels = s.tbs.active.channels) :
    Keeps s (forChannels State.dropRequest t) := by
  have tbs : (forChannels State.dropRequest t).tbs = t.tbs :=
    forChannels_keeps (·.tbs) State.dropRequest dropRequest_tbs t
  have ali : (forChannels State.dropRequest t).ali = t.ali :=
    forChannels_keeps (·.ali) State.dropRequest dropRequest_ali t
  refine .of_stays (by rw [tbs, ht]) (fun c => ?_) fun _ c tag => ?_
  · rw [dropAll_get, hr]; exact ⟨id, follows_dropped⟩
  · rw [dropAll_get, ali, hq, if_neg nofun, List.count_nil]

/-- The state a RESTART sets afresh, before it drops the requests (R183). -/
def afresh (s : State) : State :=
  { s with
    ali.outQueue := []
    etu := Vector.replicate 8 .cleared
    rfs.drainReports := 0
    scs := ⟨Vector.replicate 4 .none, 1,
      if s.tbs.activeValid then .standby else .unconfigured, false, .none⟩
    rpb := .none
    tbs.activationPending := false
    ldu := .cleared
    evu := ⟨allFlags.foldl (fun v f => v.set f.index (v[f.index]).restarted) s.evu.flags, [], []⟩
    cmu := ⟨[], []⟩
    mli.relayQueue := []
    mli.forwardQueue := []
    counters := .zero }

theorem restart_eq (s : State) : s.restart =
    ((forChannels State.dropRequest (afresh s)).reloadStopped s.intervalsRun).examine := rfl

theorem restart_settles (s : State) : Settles s s.restart := by
  have dropped : Keeps s (forChannels State.dropRequest (afresh s)) := dropAll_keeps rfl rfl rfl
  rw [restart_eq]
  exact (dropped.trans (reloadStopped_keeps _ _)).examined

/-! ### The millisecond mark -/

/-- A mark counts a channel's counters down and leaves everything that is asked of it (R26, R31). -/
theorem mark_worked (enabled run : Bool) (r : RfsChannel) : Worked enabled r (r.mark run) := by
  refine ⟨⟨id, fun h => ?_⟩, fun tag => ?_⟩
  · cases enabled with
    | true =>
      refine ⟨h.1, ?_⟩
      cases run with
      | true => exact Option.isSome_map.trans h.2
      | false => exact h.2
    | false =>
      have h : r = .off := h
      subst h
      cases run <;> rfl
  · unfold RfsChannel.mark
    rcases r.request with _ | ⟨tag', _ | timeout⟩ <;> simp

end Sys2Proof.Proofs
end

section
/-! PROOFS. What an event makes of the references: the shells, the head-end and the tail-end, the
shot records, and the commands of the Command Unit. -/

namespace Sys2Proof.Proofs

open Sys2Proof.Machine Sys2Proof.Laws

/-! ### The mode (chapter 9) -/

theorem enterParking_settles (s : State) : Settles s s.enterParking :=
  (Settles.of_unread rfl rfl rfl rfl : Settles s { s with
    scs.drainTimer := .some (s.lineField (·.parkDrainLimit)) }).trans (toMode_settles _ _)

theorem enterParked_settles (s : State) : Settles s s.enterParked :=
  (Settles.of_unread rfl rfl rfl rfl : Settles s { s with scs.drainTimer := .none }).trans
    ((toMode_settles _ _).trans (raise_settles _ _ _))

theorem settleMode_settles (s : State) : Settles s s.settleMode := by
  unfold State.settleMode
  repeat' split
  · exact enterParking_settles s
  · exact toMode_settles _ s
  · exact .refl s

/-! ### Closing and completion (R79 to R84) -/

theorem complete_settles (i : Fin 4) (mark : Irregularity → Irregularity) (s : State) :
    Settles s (s.complete i mark) := by
  unfold State.complete
  split
  · exact .refl s
  · split
    · dsimp only
      split
      all_goals exact .of_unread (by simp) (by simp) (by simp) (by simp)
    · exact .refl s

theorem enterClosing_settles (i : Fin 4) (mark : Irregularity → Irregularity) (s : State) :
    Settles s (s.enterClosing i mark) := by
  unfold State.enterClosing
  dsimp only
  split
  · exact (shellAt_settles _ _ _).trans (complete_settles _ _ _)
  · exact shellAt_settles _ _ _

theorem boundary_settles (s : State) : Settles s s.boundary := by
  unfold State.boundary
  split
  · exact .refl s
  · refine Settles.trans ?_ (settleMode_settles _)
    split
    · exact applyActivation_settles s
    · exact .refl s

theorem tailEnd_settles (s : State) : Settles s s.tailEnd := by
  unfold State.tailEnd
  split
  · exact (enterClosing_settles _ _ _).trans (boundary_settles _)
  · exact tally_settles _ s

theorem completeReached_settles (n : Nat) (s : State) : Settles s (s.completeReached n) := by
  induction n generalizing s with
  | zero => exact .refl s
  | succ n ih =>
    unfold State.completeReached
    split
    · exact .refl s
    · exact (complete_settles _ _ _).trans ((boundary_settles _).trans (ih _))

/-! ### The head-end (R74 to R78) -/

theorem headStep1_settles (s : State) : Settles s s.headStep1 := by
  unfold State.headStep1
  split
  · exact enterClosing_settles _ _ _
  · exact .refl s

theorem cutTails_settles (n : Nat) (s : State) : Settles s (s.cutTails n) := by
  induction n generalizing s with
  | zero => exact .refl s
  | succ n ih =>
    unfold State.cutTails
    split
    · exact .refl s
    · exact (complete_settles _ _ _).trans (ih _)

theorem headStep2_settles (s : State) : Settles s s.headStep2 := by
  unfold State.headStep2
  split
  · exact (cutTails_settles _ _).trans (applyActivation_settles _)
  · exact .refl s

theorem allocate_settles (s : State) : Settles s s.allocate.2 := by
  unfold State.allocate
  split
  · exact .refl s
  · split
    · exact .refl s
    · exact .of_unread (by simp) (by simp) (by simp) (by simp)

theorem missShell_settles (s : State) : Settles s s.missShell :=
  (raise_settles _ _ _).trans (tally_settles _ _)

theorem openShell_settles (i : Fin 4) (bank : ProductBank) (s : State) :
    Settles s (s.openShell i bank) := by
  unfold State.openShell
  exact ((raise_settles .shellOpened (.some s.scs.nextSequence) _).trans
    (tally_settles _ _)).after_unread rfl rfl rfl rfl

/-- The mode becomes MEASURING: from MEASURING nothing changes that R29 reads, and from any other
mode an examination follows (R30, R78). -/
theorem settleOpened_settles (s : State) : Settles s s.settleOpened := by
  unfold State.settleOpened
  dsimp only
  split
  · next h => exact .of_unread rfl rfl h.symm rfl
  · exact Keeps.examined (((raise_settles .parkState .none _).toKeeps.trans
      (leaveParked_keeps _)).after_unread rfl rfl rfl)
  · exact Keeps.examined (.of_unread rfl rfl rfl)

theorem settleMissed_settles (s : State) : Settles s s.settleMissed := by
  unfold State.settleMissed
  split
  · exact .refl s
  · exact settleMode_settles s

theorem headSteps34_settles (s : State) : Settles s s.headSteps34 := by
  have allocated := allocate_settles s
  unfold State.headSteps34
  split
  · next h =>
    rw [h] at allocated
    exact allocated.trans ((missShell_settles _).trans (settleMissed_settles _))
  · next h =>
    rw [h] at allocated
    refine allocated.trans ?_
    split
    · exact (missShell_settles _).trans (settleMissed_settles _)
    · exact (openShell_settles _ _ _).trans (settleOpened_settles _)

theorem headEnd_settles (s : State) : Settles s s.headEnd := by
  unfold State.headEnd
  split
  · exact tally_settles _ s
  · exact (headStep1_settles s).trans ((headStep2_settles _).trans (headSteps34_settles _))

/-! ### The lines (chapter 4) -/

theorem takePulse_settles (s : State) : Settles s s.takePulse := by
  unfold State.takePulse
  dsimp only
  split
  · exact .refl s
  · split
    · split
      · unfold State.countEdge State.lengthAdvance
        dsimp only
        split
        · exact (completeReached_settles _ _).after_unread rfl rfl rfl rfl
        · exact .of_unread rfl rfl rfl rfl
      · exact .of_unread rfl rfl rfl rfl
    · exact .of_unread rfl rfl rfl rfl

theorem startDeparture_settles (s : State) : Settles s s.startDeparture :=
  .of_unread (by simp) (by simp) (by simp) (by simp)

theorem takeDetect_settles (s : State) : Settles s s.takeDetect := by
  unfold State.takeDetect
  repeat' split
  · exact .of_unread rfl rfl rfl rfl
  · exact .refl s
  · exact startDeparture_settles s

theorem debounceOut_settles (s : State) : Settles s s.debounceOut := by
  unfold State.debounceOut State.takeChange
  split
  · dsimp only
    split
    · exact (headEnd_settles _).after_unread rfl rfl rfl rfl
    · exact (tailEnd_settles _).after_unread rfl rfl rfl rfl
  · exact .refl s

theorem dwellOut_settles (i : Fin 4) (s : State) : Settles s (s.dwellOut i) := by
  unfold State.dwellOut
  split
  · exact (enterClosing_settles _ _ _).trans (boundary_settles _)
  · exact .refl s

theorem tailOut_settles (i : Fin 4) (s : State) : Settles s (s.tailOut i) := by
  unfold State.tailOut
  split
  · exact (complete_settles _ _ _).trans (boundary_settles _)
  · exact .refl s

theorem drainOut_settles (s : State) : Settles s s.drainOut := by
  unfold State.drainOut
  split
  · exact (enterParked_settles s).trans (raise_settles _ _ _)
  · exact .refl s

theorem takeDrainedReport_settles (s : State) : Settles s s.takeDrainedReport := by
  unfold State.takeDrainedReport
  split
  · dsimp only
    split
    · exact (enterParked_settles _).after_unread rfl rfl rfl rfl
    · exact .of_unread rfl rfl rfl rfl
  · exact .refl s

/-! ### Shot records (R1) -/

theorem gauge_settles (c : Fin 8) (e : ChannelEntry) (r : ShotRecord) (i : Fin 4) (position : Nat)
    (times : EchoTimes) (transit t : Nat) (s : State) :
    Settles s (s.gauge c e r i position times transit t) := by
  unfold State.gauge
  split
  · exact .refl s
  · dsimp only
    split
    · refine Settles.trans ?_ (finish_settles _ _ _ _ _)
      unfold State.acceptShot State.raiseExcursion
      dsimp only
      repeat' split
      all_goals exact .of_unread (by simp) (by simp) (by simp) (by simp)
    · exact (shellAt_settles _ _ _).trans
        ((tallyChannel_settles _ _ _).trans (finish_settles _ _ _ _ _))

theorem rejectAssigned_settles (c : Fin 8) (r : ShotRecord) (i : Fin 4) (o : ShotOutcome)
    (times : EchoTimes) (s : State) : Settles s (s.rejectAssigned c r i o times) :=
  (shellAt_settles _ _ _).trans (finish_settles _ _ _ _ _)

theorem timeAndGauge_settles (c : Fin 8) (e : ChannelEntry) (r : ShotRecord) (i : Fin 4)
    (position : Nat) (s : State) : Settles s (s.timeAndGauge c e r i position) := by
  unfold State.timeAndGauge
  split
  · exact rejectAssigned_settles _ _ _ _ _ _
  · dsimp only
    split
    · exact rejectAssigned_settles _ _ _ _ _ _
    · exact (etuChannel_settles _ _ _).trans (gauge_settles _ _ _ _ _ _ _ _ _)

theorem measure_settles (c : Fin 8) (e : ChannelEntry) (r : ShotRecord) (gap : Nat) (s : State) :
    Settles s (s.measure c e r gap) := by
  unfold State.measure
  refine (etuChannel_settles c (·.refreshHold r.temperature) s).trans ?_
  dsimp only
  split
  · exact (tally_settles _ _).trans (finish_settles _ _ _ _ _)
  · exact (shellAt_settles _ _ _).trans (finish_settles _ _ _ _ _)
  · exact (shellAt_settles _ _ _).trans (timeAndGauge_settles _ _ _ _ _ _)

theorem reference_settles {c : Fin 8} {s : State} (on : s.enabled c = true) (e : ChannelEntry)
    (r : ShotRecord) : Settles s (s.reference c e r) := by
  unfold State.reference
  split
  · next matched =>
    split
    · exact rejectReference_settles matched _ _
    · dsimp only
      split
      · exact acceptReference_settles matched on _ _
      · exact rejectReference_settles matched _ _
  · exact (tallyChannel_settles _ _ _).trans (finish_settles _ _ _ _ _)

theorem passRecord_settles {c : Fin 8} {s : State} (on : s.enabled c = true) (e : ChannelEntry)
    (r : ShotRecord) : Settles s (s.passRecord c e r) := by
  unfold State.passRecord
  dsimp only
  split
  · exact (measure_settles _ _ _ _ _).after_unread rfl rfl rfl rfl
  · exact (reference_settles (s := (s.tallyChannel c _).keepSequence c r) on _ _).after_unread
      rfl rfl rfl rfl

theorem takeRecord_settles (payload : List Byte) (s : State) :
    Settles s (s.takeRecord payload) := by
  have unknown : Settles s s.dropUnknownChannel := (tally_settles _ s).trans (raise_settles _ _ _)
  have badLength : ∀ c, Settles s (s.dropBadLength c) := fun c =>
    (etuChannel_settles _ _ s).trans ((tallyChannel_settles _ _ _).trans (raise_settles _ _ _))
  have forMode : ∀ c r o, Settles s (s.dropForMode c r o) := fun c r o =>
    (etuChannel_settles _ _ s).trans ((tallyChannel_settles _ _ _).trans (finish_settles _ _ _ _ _))
  unfold State.takeRecord
  dsimp only
  split
  · exact unknown
  · split
    · split
      · exact badLength _
      · exact forMode _ _ _
    · split
      · exact unknown
      · next he =>
        split
        · exact badLength _
        · split
          · exact forMode _ _ _
          · exact passRecord_settles (Option.isSome_of_eq_some he) _ _

/-! ### Frames received (R173) -/

theorem receive_settles {owner : Frame → State → State} (h : ∀ f s, Settles s (owner f s))
    (link : Link) (kind : Byte) (bytes : List Byte) (s : State) :
    Settles s (s.receive link kind owner bytes) := by
  unfold State.receive
  repeat' split
  · exact discardFrame_settles _ _ s
  · exact (tally_settles _ s).trans (h _ _)
  · exact .refl s
  · exact .refl s

theorem receiveFailing_settles (link : Link) (bytes : List Byte) (s : State) :
    Settles s (s.receiveFailing link bytes) := by
  unfold State.receiveFailing
  repeat' split
  · exact discardFrame_settles _ _ s
  · exact .refl s
  · exact .refl s

theorem offerRelay_settles (f : Frame) (s : State) : Settles s (s.offerRelay f) := by
  unfold State.offerRelay
  split <;> exact .of_unread rfl rfl rfl rfl

theorem offerCommand_settles (f : Frame) (s : State) : Settles s (s.offerCommand f) := by
  unfold State.offerCommand
  repeat' split
  · exact .of_unread rfl rfl rfl rfl
  · exact (tally_settles _ s).trans (raise_settles _ _ _)
  · exact (tally_settles _ s).trans (raise_settles _ _ _)

/-! ### The M-link (R179) -/

theorem loseMLock_settles (partly : Bool) (s : State) : Settles s (s.loseMLock partly) := by
  unfold State.loseMLock State.abortM State.discardPartial
  repeat' split
  all_goals exact .of_unread (by simp) (by simp) (by simp) (by simp)

theorem gainMLock_settles (s : State) : Settles s s.gainMLock := .of_unread rfl rfl rfl rfl

/-! A frame that starts on the M-link touches no reference. -/

theorem takeReply_settles (s : State) : Settles s s.takeReply := by
  unfold State.takeReply
  repeat' split
  all_goals exact .of_unread rfl rfl rfl rfl

theorem takeNotice_settles (s : State) : Settles s s.takeNotice := by
  unfold State.takeNotice
  repeat' split
  all_goals exact .of_unread rfl rfl rfl rfl

theorem takeReportFrame_settles (s : State) : Settles s s.takeReportFrame := by
  unfold State.takeReportFrame
  repeat' split
  all_goals exact .of_unread rfl rfl rfl rfl

theorem takeSample_settles (s : State) : Settles s s.takeSample := by
  unfold State.takeSample
  repeat' split
  all_goals exact .of_unread rfl rfl rfl rfl

theorem takeRelay_settles (s : State) : Settles s s.takeRelay := by
  unfold State.takeRelay
  repeat' split
  all_goals exact .of_unread rfl rfl rfl rfl

theorem takeForwarded_settles (s : State) : Settles s s.takeForwarded := by
  unfold State.takeForwarded
  repeat' split
  all_goals exact .of_unread rfl rfl rfl rfl

/-- The end of a frame frees its link; R29 does not read what a link is sending. -/
theorem endFrame_settles (link : Link) (s : State) : Settles s (s.endFrame link) := by
  cases link with
  | aLink => exact ⟨.of_unread rfl rfl rfl, fun h c => h c⟩
  | mLink => exact .of_unread rfl rfl rfl rfl

/-! ### The Command Unit (R180) -/

/-- The act of a command touches the references as a settling event does. -/
def ActSettles (act : Command → State → Answer) : Prop := ∀ c s, Settles s (act c s).state

theorem takeCommand_settles {act : Command → State → Answer} (h : ActSettles act) (row : Instr)
    (s : State) : Settles s (s.takeCommand row act) := by
  unfold State.takeCommand
  split
  · exact .refl s
  · split
    · next c rest _ _ =>
      have acted := (Settles.of_unread rfl rfl rfl rfl :
        Settles s { s with cmu.commands := rest }).trans (h c _)
      exact acted.trans (.of_unread rfl rfl rfl rfl)
    · exact .refl s

theorem noArguments_settles {act : State → Answer} (h : ∀ s, Settles s (act s).state) :
    ActSettles (noArguments act) := by
  intro c s
  unfold noArguments
  split
  · exact h s
  · exact .refl s

theorem argumentsOf_settles {act : List Byte → State → Answer}
    (h : ∀ args s, Settles s (act args s).state) (n : Nat) : ActSettles (argumentsOf n act) := by
  intro c s
  unfold argumentsOf
  split
  · exact h _ s
  · exact .refl s

theorem load_settles {write : List Int → State → State} (h : ∀ v s, Settles s (write v s))
    (specs : List FieldSpec) (tie : List Int → Nat → Bool) (args : List Byte) (s : State) :
    Settles s (s.load specs tie write args).state := by
  unfold State.load
  dsimp only
  repeat' split
  · exact .of_unread rfl rfl rfl rfl
  · exact .of_unread rfl rfl rfl rfl
  · exact (h _ s).trans (.of_unread rfl rfl rfl rfl)

theorem stageChannel_settles (n : Nat) (e : Option ChannelEntry) (s : State) :
    Settles s (s.stageChannel n e) := .of_unread rfl rfl rfl rfl

theorem stageVelocity_settles (n : Nat) (t : Option VelocityTable) (s : State) :
    Settles s (s.stageVelocity n t) := .of_unread rfl rfl rfl rfl

theorem stageBank_settles (n : Nat) (b : Option ProductBank) (s : State) :
    Settles s (s.stageBank n b) := .of_unread rfl rfl rfl rfl

theorem stageLine_settles (l : Option LineSetup) (s : State) : Settles s (s.stageLine l) :=
  .of_unread rfl rfl rfl rfl

theorem loadChannel_settles : ActSettles State.loadChannel :=
  argumentsOf_settles (load_settles (fun _ _ => stageChannel_settles _ _ _) _ _) _

theorem loadVelocity_settles : ActSettles State.loadVelocity := by
  intro c s
  unfold State.loadVelocity
  dsimp only
  split
  · exact argumentsOf_settles (load_settles (fun _ _ => stageVelocity_settles _ _ _) _ _) _ c s
  · exact .refl s

theorem loadBank_settles : ActSettles State.loadBank :=
  argumentsOf_settles (load_settles (fun _ _ => stageBank_settles _ _ _) _ _) _

theorem loadLine_settles : ActSettles State.loadLine :=
  argumentsOf_settles (load_settles (fun _ _ => stageLine_settles _ _) _ _) _

theorem loadShortForm_settles : ActSettles State.loadShortForm := by
  intro c s
  unfold State.loadShortForm
  dsimp only
  split
  · exact load_settles (fun _ _ => stageChannel_settles _ _ _) _ _ _ s
  · exact load_settles (fun _ _ => stageVelocity_settles _ _ _) _ _ _ s
  · exact load_settles (fun _ _ => stageBank_settles _ _ _) _ _ _ s
  · exact load_settles (fun _ _ => stageLine_settles _ _) _ _ _ s

theorem readTable_settles (args : List Byte) (s : State) : Settles s (s.readTable args).state := by
  unfold State.readTable
  dsimp only
  split <;> exact .refl s

theorem activate_settles (s : State) : Settles s s.activate.state := by
  unfold State.activate
  repeat' split
  · exact .refl s
  · exact .of_unread rfl rfl rfl rfl
  · exact .of_unread rfl rfl rfl rfl
  · exact applyActivation_settles s

theorem selectBank_settles (args : List Byte) (s : State) :
    Settles s (s.selectBank args).state := by
  unfold State.selectBank
  split
  · exact .of_unread rfl rfl rfl rfl
  · exact .refl s

@[simp] theorem modeReply_state (s : State) : s.modeReply.state = s := rfl

theorem park_settles (s : State) : Settles s s.park.state := by
  unfold State.park
  split
  · exact .refl s
  · rw [modeReply_state]
    exact (enterParking_settles _).after_unread rfl rfl rfl rfl
  · exact .of_unread rfl rfl rfl rfl
  · exact .refl s
  · exact .refl s

theorem unpark_settles (s : State) : Settles s s.unpark.state := by
  unfold State.unpark
  split
  · exact .refl s
  · exact .refl s
  · exact .of_unread rfl rfl rfl rfl
  · rw [modeReply_state]
    exact (toMode_settles _ _).after_unread rfl rfl rfl rfl
  · dsimp only
    rw [modeReply_state]
    exact Keeps.examined (((raise_settles .parkState .none _).toKeeps.trans
      (leaveParked_keeps _)).after_unread rfl rfl rfl)

theorem fetchReport_settles (args : List Byte) (s : State) :
    Settles s (s.fetchReport args).state := by
  unfold State.fetchReport State.startStream
  dsimp only
  repeat' split
  all_goals exact .of_unread rfl rfl rfl rfl

theorem releaseReport_settles (args : List Byte) (s : State) :
    Settles s (s.releaseReport args).state := by
  unfold State.releaseReport
  repeat' split
  · exact .refl s
  · exact .of_unread rfl rfl rfl rfl
  · exact .refl s

theorem armCapture_settles (args : List Byte) (s : State) :
    Settles s (s.armCapture args).state := by
  unfold State.armCapture
  repeat' split
  all_goals exact .of_unread rfl rfl rfl rfl

theorem readCapture_settles (args : List Byte) (s : State) :
    Settles s (s.readCapture args).state := by
  unfold State.readCapture
  repeat' split
  all_goals exact .refl s

/-- What every flag's change settles, the flags one after another settle. -/
theorem flags_settle {f : State → Flag → State} (h : ∀ s g, Settles s (f s g)) (s : State) :
    Settles s (allFlags.foldl f s) := by
  have all : ∀ (l : List Flag) s, Settles s (l.foldl f s) := by
    intro l
    induction l with
    | nil => exact Settles.refl
    | cons g l ih => exact fun s => (h s g).trans (ih _)
  exact all allFlags s

theorem clearFlag_settles (n : Nat) (s : State) (g : Flag) : Settles s (State.clearFlag n s g) :=
  .of_unread (by simp) (by simp) (by simp) (by simp)

theorem maskFlag_settles (n : Nat) (s : State) (g : Flag) : Settles s (State.maskFlag n s g) :=
  .of_unread (by simp) (by simp) (by simp) (by simp)

theorem clearEvents_settles (args : List Byte) (s : State) :
    Settles s (s.clearEvents args).state := by
  unfold State.clearEvents
  dsimp only
  split
  · exact flags_settle (clearFlag_settles (ofBytes args)) s
  · exact .refl s

theorem setEventMask_settles (args : List Byte) (s : State) :
    Settles s (s.setEventMask args).state := by
  unfold State.setEventMask
  dsimp only
  split
  · dsimp only
    exact flags_settle (maskFlag_settles (ofBytes args)) s
  · exact .refl s

theorem restartCommand_settles (s : State) : Settles s s.restartCommand.state := by
  unfold State.restartCommand
  dsimp only
  exact restart_settles s

theorem readCounters_settles : ActSettles State.readCountersCommand := by
  have read : ∀ option s, Settles s (State.readCounters option s).state := by
    intro option s
    unfold State.readCounters
    dsimp only
    repeat' split
    all_goals exact .of_unread rfl rfl rfl rfl
  intro c s
  unfold State.readCountersCommand
  split
  · exact read _ s
  · exact read _ s
  · exact .refl s

end Sys2Proof.Proofs
end

section
/-! PROOFS. The millisecond mark: what it counts, said once (R24, R26, R31, R62, R79, R81, R152). -/

namespace Sys2Proof.Proofs

open Sys2Proof.Machine Sys2Proof.Laws

/-- A walk over the channels that changes nothing but each channel's references. -/
theorem forChannels_rfsChannel (f : RfsChannel → RfsChannel) (s : State) :
    forChannels (fun c t => t.rfsChannel c f) s =
      { s with rfs.channels := s.rfs.channels.map f } := by
  have rest := forChannels_keeps (fun t : State => { t with rfs.channels := s.rfs.channels })
    (fun c t => t.rfsChannel c f) (fun _ _ => rfl) s
  have channels : (forChannels (fun c t => t.rfsChannel c f) s).rfs.channels =
      s.rfs.channels.map f := by
    refine Vector.ext fun i hi => ?_
    have one := forChannels_get (fun _ => ()) (fun t d => t.rfs.channels[d]) (fun _ _ r => f r)
      (fun c t => t.rfsChannel c f) (fun _ _ => rfl) (fun c d t => rfsChannel_get c d f t) s ⟨i, hi⟩
    rw [Vector.getElem_map]
    exact one
  calc forChannels (fun c t => t.rfsChannel c f) s
      = { ({ forChannels (fun c t => t.rfsChannel c f) s with rfs.channels := s.rfs.channels } :
            State) with
          rfs.channels := (forChannels (fun c t => t.rfsChannel c f) s).rfs.channels } := rfl
    _ = { s with rfs.channels := s.rfs.channels.map f } := by rw [rest, channels]

/-- A walk over the contexts that changes each shell by `f`. -/
theorem allContexts_shellAt (f : Shell → Shell) (s : State) :
    allContexts.foldl (fun t i => t.shellAt i f) s =
      { s with scs.contexts := s.scs.contexts.map (Option.map f) } := by
  have contexts : (allContexts.foldl (fun t i => t.shellAt i f) s).scs.contexts =
      s.scs.contexts.map (Option.map f) := by
    refine Vector.ext fun i hi => ?_
    rw [Vector.getElem_map]
    simp only [allContexts, List.foldl_cons, List.foldl_nil, State.shellAt, Fin.getElem_fin,
      Vector.getElem_set]
    obtain rfl | rfl | rfl | rfl : i = 0 ∨ i = 1 ∨ i = 2 ∨ i = 3 := by omega
    all_goals rfl
  rw [← contexts]
  rfl

/-- A mark of the timebase, block by block. -/
theorem millisecond_eq {s : State} (h : s.resetHeld = false) : s.millisecond =
    { s with
      pending := if s.debounceDue then s.pending ++ [.debounceExpiry] else s.pending
      rfs.channels := s.rfs.channels.map (RfsChannel.mark s.intervalsRun)
      scs.contexts := s.scs.contexts.map (Option.map Shell.mark)
      scs.drainTimer := s.scs.drainTimer.map (· - 1)
      tru.debounce := if s.rawLevel ≠ s.tru.detectorLevel then s.tru.debounce.map (· - 1)
        else s.tru.debounce } := by
  unfold State.millisecond
  rw [if_neg (by rw [h]; exact Bool.false_ne_true)]
  dsimp only
  rw [forChannels_rfsChannel, allContexts_shellAt]
  simp only [decide_eq_true_eq]

/-- A mark of the timebase issues nothing and owes nothing: a channel keeps its backlog, and its
request as far as R29 reads it. -/
theorem millisecond_settles (s : State) : Settles s s.millisecond := by
  cases h : s.resetHeld with
  | true => simp only [State.millisecond, h, if_true]; exact .refl s
  | false =>
    rw [millisecond_eq h]
    refine ⟨.of_worked rfl rfl fun c => ?_, fun owed c => ?_⟩
    · simp only [Fin.getElem_fin, Vector.getElem_map]
      exact mark_worked _ _ _
    · have same := owed c
      simp only [State.mayIssue, State.otherOutstanding, State.ref, Fin.getElem_fin,
        Vector.getElem_map, RfsChannel.mark, Option.isNone_map, Option.isSome_map] at same ⊢
      exact same

end Sys2Proof.Proofs
end

section
/-! PROOFS. The references under every step (O5, O9), and the state after reset (O10). -/

namespace Sys2Proof.Proofs

open Sys2Proof.Machine Sys2Proof.Laws

/-! ### Every step -/

theorem event_settles {f : State → State} (h : ∀ s, Settles s (f s)) (s : State) :
    Settles s (s.event f) := by
  unfold State.event
  split
  · exact .refl s
  · exact (h s).trans (reportDrained_settles s _)

theorem aReady_settles {f : State → State} (h : ∀ s, Settles s (f s)) (s : State) :
    Settles s (if s.aReady then f s else s) := by
  split
  · exact h s
  · exact .refl s

/-- Every row of the table keeps the invariants of the references and leaves no request owed. -/
theorem exec_settles {c : Instr} {s t : State} (h : exec c s = .next t) : Settles s t := by
  have command {act : Command → State → Answer} (row : Instr) (ha : ActSettles act) :
      Settles s (s.event (State.takeCommand row act)) :=
    event_settles (takeCommand_settles ha row) s
  cases c <;> cases h
  case shotRecord frame =>
    exact event_settles (receive_settles (fun f => takeRecord_settles _) _ _ _) s
  case concentratorMessage frame => exact event_settles (receive_settles offerRelay_settles _ _ _) s
  case relayMessage frame => exact event_settles (receive_settles offerRelayed_settles _ _ _) s
  case commandFrame frame => exact event_settles (receive_settles offerCommand_settles _ _ _) s
  case pulseEdge high => exact (event_settles takePulse_settles _).after_unread rfl rfl rfl rfl
  case shellDetectChange high =>
    exact (event_settles takeDetect_settles _).after_unread rfl rfl rfl rfl
  case debounceExpiry => exact event_settles debounceOut_settles s
  case referenceIntervalExpiry channel => exact event_settles (intervalOut_settles channel) s
  case referenceTimeout channel => exact event_settles (requestOut_settles channel) s
  case dwellLimit context => exact event_settles (dwellOut_settles context) s
  case tailTimeout context => exact event_settles (tailOut_settles context) s
  case parkDrainLimit => exact event_settles drainOut_settles s
  case drainedReport => exact event_settles takeDrainedReport_settles s
  case aLinkLockLost partly => exact event_settles (loseALock_settles partly) s
  case aLinkLockGained => exact event_settles gainALock_settles s
  case mLinkLockLost partly => exact event_settles (loseMLock_settles partly) s
  case mLinkLockGained => exact event_settles gainMLock_settles s
  case sendReferenceRequest => exact event_settles (aReady_settles takeRequest_settles) s
  case sendRelayedMessage => exact event_settles (aReady_settles takeRelayed_settles) s
  case sendReply => exact event_settles takeReply_settles s
  case sendNotice => exact event_settles takeNotice_settles s
  case sendReportFrame => exact event_settles takeReportFrame_settles s
  case sendWallSample => exact event_settles takeSample_settles s
  case sendConcentratorMessage => exact event_settles takeRelay_settles s
  case sendForwardedRecord => exact event_settles takeForwarded_settles s
  case hardReset => exact .of_meets (held_meets s)
  case identify => exact command _ (noArguments_settles fun s => .refl s)
  case loadChannel => exact command _ loadChannel_settles
  case loadVelocity => exact command _ loadVelocity_settles
  case loadBank => exact command _ loadBank_settles
  case loadLine => exact command _ loadLine_settles
  case loadShortForm => exact command _ loadShortForm_settles
  case readTable => exact command _ (argumentsOf_settles readTable_settles 3)
  case activate => exact command _ (noArguments_settles activate_settles)
  case selectBank => exact command _ (argumentsOf_settles selectBank_settles 1)
  case forceHead => exact command _ (noArguments_settles headEnd_settles)
  case forceTail => exact command _ (noArguments_settles tailEnd_settles)
  case park => exact command _ (noArguments_settles park_settles)
  case unpark => exact command _ (noArguments_settles unpark_settles)
  case fetchReport => exact command _ (argumentsOf_settles fetchReport_settles 6)
  case releaseReport => exact command _ (argumentsOf_settles releaseReport_settles 4)
  case readSnapshot => exact command _ (noArguments_settles fun s => .of_unread rfl rfl rfl rfl)
  case armCapture => exact command _ (argumentsOf_settles armCapture_settles 3)
  case readCapture => exact command _ (argumentsOf_settles readCapture_settles 2)
  case readEvents => exact command _ (noArguments_settles fun s => .refl s)
  case clearEvents => exact command _ (argumentsOf_settles clearEvents_settles 3)
  case setEventMask => exact command _ (argumentsOf_settles setEventMask_settles 3)
  case readCounters => exact command _ readCounters_settles
  case restart => exact command _ (noArguments_settles restartCommand_settles)
  case unknownCommand => exact command _ fun _ s => .refl s
  case linkFrameDiscarded link frame => exact event_settles (receiveFailing_settles link frame) s
  case frameSendComplete link => exact event_settles (endFrame_settles link) s
  case resetRelease =>
    split
    · exact .of_meets (afterReset_meets _ _)
    · exact .refl s

theorem step_settles {s t : State} (h : step s = .next t) : Settles s t := by
  unfold step at h
  split at h
  · exact (exec_settles h).after_unread rfl rfl rfl rfl
  · split at h
    · exact exec_settles h
    · cases h
      exact millisecond_settles s

/-- Settles O5: each of the three invariants is kept by whatever settles the references, as every
step does. -/
theorem stepKeepsReferencesConsistent : Obligations.StepKeepsReferencesConsistent := by
  unfold Obligations.StepKeepsReferencesConsistent
  exact ⟨fun _ _ h hs => (step_settles hs).backlogs h, fun _ _ h hs => (step_settles hs).follow h,
    fun _ _ h hs => (step_settles hs).queued h⟩

/-- Settles O9: whatever changes what R29 reads ends in an examination, which leaves nothing owed.
-/
theorem stepLeavesNoRequestOwed : Obligations.StepLeavesNoRequestOwed := by
  unfold Obligations.StepLeavesNoRequestOwed
  exact fun _ _ h hs => (step_settles hs).owed h

end Sys2Proof.Proofs
end

section
/-! PROOFS. The state after reset (O10), and the RESET line (O11). -/

namespace Sys2Proof.Proofs

open Sys2Proof.Machine Sys2Proof.Laws

/-! ### After reset -/

theorem reset_context (i : Fin 4) : State.reset.scs.contexts[i] = .none :=
  Vector.getElem_replicate i.isLt

/-- Every context is FREE, so nothing of a shell holds. -/
theorem reset_holds (p : Shell → Bool) (i : Fin 4) : State.reset.holds p i = false := by
  rw [State.holds, reset_context]
  rfl

theorem reset_gauging : State.reset.gauging = false := by
  simp only [State.gauging, List.any_eq_false, reset_holds, Bool.false_eq_true, not_false_eq_true,
    implies_true]

/-- Settles O10: the queues are empty, the contexts FREE and the channels off. -/
theorem resetMeetsTheInvariants : Obligations.ResetMeetsTheInvariants := by
  unfold Obligations.ResetMeetsTheInvariants
  obtain ⟨backlogs, follow, queued, owed⟩ := afterReset_meets [] ⟨false, false⟩
  have free : ∀ (i : Fin 4) (sh : Shell), State.reset.scs.contexts[i] ≠ .some sh := fun i sh h => by
    rw [reset_context] at h
    cases h
  refine ⟨?_, backlogs, fun i _ h => ?_, ⟨?_, nofun⟩, ⟨?_, ?_, ?_⟩, ⟨by decide, ?_, ?_⟩, ?_, ?_,
    follow, queued, owed⟩
  · exact ⟨by decide, by decide, by decide, by decide, by decide, by decide, by decide, by decide⟩
  · rw [reset_holds] at h; cases h
  · rw [reset_gauging]; exact iff_of_false nofun nofun
  · exact iff_of_false nofun nofun
  · exact fun h => h.elim nofun nofun
  · exact fun _ => rfl
  · exact fun i sh h => absurd h (free i sh)
  · exact fun i _ a _ h => absurd h (free i a)
  · exact fun i sh h => absurd h (free i sh)
  · exact fun i sh h => absurd h (free i sh)

/-! ### The RESET line -/

/-- The 121 counters at 0 (R182). -/
theorem zero_list : Counters.zero.list = List.replicate 121 0 := by decide

/-- No flag is set or enabled after a hard reset (R165). -/
theorem held_flag (s : State) (f : Machine.Flag) : s.held.flag f = ⟨false, 0, .none, false⟩ :=
  Vector.getElem_replicate f.index.isLt

theorem held_attn (s : State) : s.held.attn = false := by
  simp only [State.attn, List.any_eq_false, held_flag, Bool.false_and, Bool.false_eq_true,
    not_false_eq_true, implies_true]

/-- Settles O11: the held state read block by block, and the release as its lines read again. -/
theorem resetClearsEveryBlockAndReadsTheLines :
    Obligations.ResetClearsEveryBlockAndReadsTheLines := by
  unfold Obligations.ResetClearsEveryBlockAndReadsTheLines
  constructor
  · intro s
    exact ⟨s.held, rfl, rfl, rfl, rfl, rfl, rfl, rfl, zero_list,
      fun c => ⟨Vector.getElem_replicate c.isLt, Vector.getElem_replicate c.isLt⟩, rfl, rfl, rfl,
      rfl, fun i => Vector.getElem_replicate i.isLt, rfl, rfl, rfl, rfl, rfl, rfl, rfl, held_flag s, rfl,
      rfl, held_attn s⟩
  · intro s hs
    refine ⟨s.held, rfl, ?_⟩
    show Host.Outcome.next (if s.resetHeld then State.afterReset s.pending s.pins else s) = _
    rw [if_pos hs]
    rfl

end Sys2Proof.Proofs
end

section
/-! PROOFS. The examination of R30 (O23): the channels it serves, in ascending order, each judged
against the state that the channels served before it left. -/

namespace Sys2Proof.Proofs

open Sys2Proof.Machine Sys2Proof.Laws

/-! ### The channels served -/

/-- The channels of `l` examined one after another. -/
def examineList (l : List (Fin 8)) (s : State) : State := l.foldl (fun s c => examineOne c s) s

theorem examine_eq_list (s : State) : s.examine = examineList allChannels s := rfl

theorem examineList_examined (l : List (Fin 8)) (s : State) : Examined s (examineList l s) := by
  induction l generalizing s with
  | nil => exact .refl s
  | cons c l ih => exact (examineOne_examined c s).trans (ih _)

/-- The channels of `l` that are issued a request when they are examined one after another. -/
def served : List (Fin 8) → State → List (Fin 8)
  | [], _ => []
  | c :: l, s => if s.mayIssue c then c :: served l (s.issue c) else served l s

theorem served_issue {c : Fin 8} {s : State} (h : s.mayIssue c = true) (l : List (Fin 8)) :
    served (c :: l) s = c :: served l (s.issue c) ∧
      examineList (c :: l) s = examineList l (s.issue c) := by
  simp only [served, examineList, List.foldl_cons, examineOne, h, if_true, and_self]

theorem served_pass {c : Fin 8} {s : State} (h : ¬ s.mayIssue c = true) (l : List (Fin 8)) :
    served (c :: l) s = served l s ∧ examineList (c :: l) s = examineList l s := by
  simp only [served, examineList, List.foldl_cons, examineOne, h, if_false, and_self,
    Bool.false_eq_true]

theorem served_append (l m : List (Fin 8)) (s : State) :
    served (l ++ m) s = served l s ++ served m (examineList l s) := by
  induction l generalizing s with
  | nil => rfl
  | cons c l ih =>
    rw [List.cons_append]
    by_cases h : s.mayIssue c = true
    · rw [(served_issue h _).1, (served_issue h _).1, (served_issue h _).2, ih, List.cons_append]
    · rw [(served_pass h _).1, (served_pass h _).1, (served_pass h _).2, ih]

theorem served_sublist (l : List (Fin 8)) (s : State) : (served l s).Sublist l := by
  induction l generalizing s with
  | nil => exact .slnil
  | cons c l ih =>
    by_cases h : s.mayIssue c = true
    · rw [(served_issue h l).1]; exact (ih _).cons_cons c
    · rw [(served_pass h l).1]; exact (ih _).cons c

/-! ### What the channels served leave -/

/-- The tag counter goes on by one for each channel served (R30). -/
theorem examineList_tagCounter (l : List (Fin 8)) (s : State) (ht : s.rfs.tagCounter < 256) :
    (examineList l s).rfs.tagCounter = (s.rfs.tagCounter + (served l s).length) % 256 := by
  induction l generalizing s with
  | nil => exact (Nat.mod_eq_of_lt ht).symm
  | cons c l ih =>
    by_cases h : s.mayIssue c = true
    · have tag : (s.issue c).rfs.tagCounter = (s.rfs.tagCounter + 1) % 256 := rfl
      rw [(served_issue h l).1, (served_issue h l).2, ih _ (by rw [tag]; omega), tag,
        List.length_cons]
      omega
    · rw [(served_pass h l).1, (served_pass h l).2, ih s ht]

/-- The frames of the channels served join the queue in order, with consecutive tags. -/
theorem examineList_ali (l : List (Fin 8)) (s : State) (ht : s.rfs.tagCounter < 256) :
    (examineList l s).ali = { s.ali with
      outQueue := s.ali.outQueue ++
        (served l s).mapIdx fun k c => .request c ((s.rfs.tagCounter + k) % 256) } := by
  induction l generalizing s with
  | nil => simp [examineList, served]
  | cons c l ih =>
    by_cases h : s.mayIssue c = true
    · have tag : (s.issue c).rfs.tagCounter = (s.rfs.tagCounter + 1) % 256 := rfl
      have queue : (s.issue c).ali =
        { s.ali with outQueue := s.ali.outQueue ++ [.request c s.rfs.tagCounter] } := rfl
      have next : ∀ k, ((s.rfs.tagCounter + 1) % 256 + k) % 256 =
          (s.rfs.tagCounter + (k + 1)) % 256 := by omega
      rw [(served_issue h l).1, (served_issue h l).2, ih _ (by rw [tag]; omega), tag, queue]
      simp only [List.mapIdx_cons, next, Nat.add_zero, Nat.mod_eq_of_lt ht, List.append_assoc,
        List.cons_append, List.nil_append]
    · rw [(served_pass h l).1, (served_pass h l).2, ih s ht]

/-- The A-out queue is not filled beyond its places. -/
theorem examineList_fits (l : List (Fin 8)) (s : State) (h : s.ali.outQueue.length ≤ 8) :
    (examineList l s).ali.outQueue.length ≤ 8 := by
  induction l generalizing s with
  | nil => exact h
  | cons c l ih =>
    by_cases hm : s.mayIssue c = true
    · obtain ⟨-, -, -, -, place⟩ := mayIssue_request hm
      have joined : (s.issue c).ali.outQueue.length = s.ali.outQueue.length + 1 :=
        List.length_append
      rw [(served_issue hm l).2]
      exact ih _ (by omega)
    · rw [(served_pass hm l).2]
      exact ih s h

/-- A channel served has its request QUEUED with its place's tag; any other stands. -/
theorem examineList_channel {l : List (Fin 8)} (hl : l.Nodup) (s : State)
    (ht : s.rfs.tagCounter < 256) (d : Fin 8) : (examineList l s).rfs.channels[d] =
      { s.rfs.channels[d] with
        request := if d ∈ served l s
          then .some ⟨(s.rfs.tagCounter + (served l s).idxOf d) % 256, .queued⟩
          else s.rfs.channels[d].request } := by
  induction l generalizing s with
  | nil => simp [examineList, served]
  | cons c l ih =>
    obtain ⟨hc, hl⟩ := List.nodup_cons.mp hl
    by_cases h : s.mayIssue c = true
    · have tag : (s.issue c).rfs.tagCounter = (s.rfs.tagCounter + 1) % 256 := rfl
      have later : c ∉ served l (s.issue c) := fun hm => hc ((served_sublist l _).subset hm)
      rw [(served_issue h l).1, (served_issue h l).2, ih hl _ (by rw [tag]; omega), tag,
        issue_channels, rfsChannel_get]
      by_cases hd : c = d
      · subst hd
        simp [later, Nat.mod_eq_of_lt ht]
      · have hd' : d ≠ c := fun h => hd h.symm
        rw [if_neg hd, List.idxOf_cons_ne _ hd]
        have next : ∀ k, ((s.rfs.tagCounter + 1) % 256 + k) % 256 =
          (s.rfs.tagCounter + (k + 1)) % 256 := by omega
        simp only [List.mem_cons, hd', false_or, next]
    · rw [(served_pass h l).1, (served_pass h l).2, ih hl s ht]

/-- The requests of a channel served are counted once (R182). -/
theorem examineList_counters {l : List (Fin 8)} (hl : l.Nodup) (s : State) (d : Fin 8) :
    (examineList l s).counters.channels[d] =
      { s.counters.channels[d] with
        requestsIssued := if d ∈ served l s then inc32 s.counters.channels[d].requestsIssued
          else s.counters.channels[d].requestsIssued } := by
  induction l generalizing s with
  | nil => simp [examineList, served]
  | cons c l ih =>
    obtain ⟨hc, hl⟩ := List.nodup_cons.mp hl
    by_cases h : s.mayIssue c = true
    · have later : c ∉ served l (s.issue c) := fun hm => hc ((served_sublist l _).subset hm)
      rw [(served_issue h l).1, (served_issue h l).2, ih hl, issue_counters, tallyChannel_get]
      by_cases hd : c = d
      · subst hd
        simp [later]
      · have hd' : d ≠ c := fun h => hd h.symm
        simp only [hd, if_false, List.mem_cons, hd', false_or]
    · rw [(served_pass h l).1, (served_pass h l).2, ih hl s]

/-! ### Which channels are served -/

/-- R29's table for a backlog above 0, as a statement. -/
def LevelAllows (mode : Mode) (keepReference : Bool) (backlog : Nat) (others : Prop) : Prop :=
  match mode with
  | .unconfigured => False
  | .standby => True
  | .measuring => 8 ≤ backlog ∨ 4 ≤ backlog ∧ ¬ others
  | .parking => True
  | .parked => keepReference = true ∧ 8 ≤ backlog

theorem levelAllowed_iff (mode : Mode) (keepReference : Bool) (backlog : Nat) (others : Bool) :
    levelAllowed mode keepReference backlog others = true ↔
      LevelAllows mode keepReference backlog (others = true) := by
  cases mode with
  | measuring =>
    unfold levelAllowed LevelAllows
    dsimp only
    repeat' split
    · exact iff_of_false nofun (by omega)
    · cases others
      · exact iff_of_true rfl (.inr ⟨by omega, nofun⟩)
      · refine iff_of_false nofun ?_
        rintro (high | ⟨-, alone⟩)
        · omega
        · exact alone rfl
    · exact iff_of_true rfl (.inl (by omega))
  | parked => simp [levelAllowed, LevelAllows]
  | _ => simp [levelAllowed, LevelAllows]

theorem mayIssue_iff (s : State) (c : Fin 8) : s.mayIssue c = true ↔
    s.enabled c = true ∧ 0 < s.rfs.channels[c].backlog ∧ s.rfs.channels[c].request = .none ∧
      s.ali.inLock = true ∧ s.ali.outQueue.length < 8 ∧
      LevelAllows s.scs.mode s.keepReference s.rfs.channels[c].backlog
        (∃ d, d ≠ c ∧ s.rfs.channels[d].request ≠ .none) := by
  have others : s.otherOutstanding c = true ↔ ∃ d, d ≠ c ∧ s.rfs.channels[d].request ≠ .none := by
    simp only [State.otherOutstanding, State.ref, List.any_eq_true, mem_allChannels, true_and,
      Bool.and_eq_true, bne_iff_ne, Option.isSome_iff_ne_none]
  rw [← others, ← levelAllowed_iff]
  simp only [State.mayIssue, Bool.and_eq_true, decide_eq_true_eq, Option.isNone_iff_eq_none,
    and_assoc]
  rfl

/-- The channels before and after one, in ascending order. -/
theorem allChannels_split (c : Fin 8) : allChannels =
    (allChannels.filter fun d => decide (d < c)) ++
      c :: allChannels.filter fun d => decide (c < d) := by
  revert c; decide

theorem allChannels_nodup : allChannels.Nodup := by decide

theorem allChannels_sorted : allChannels.Pairwise (· < ·) := by decide

theorem served_sorted (s : State) : (served allChannels s).Pairwise (· < ·) :=
  allChannels_sorted.sublist (served_sublist _ s)

/-- The channels below `c` that are served are served before `c` is examined. -/
theorem served_below (s : State) (c : Fin 8) :
    (served allChannels s).filter (fun d => decide (d < c)) =
      served (allChannels.filter fun d => decide (d < c)) s := by
  have below : ∀ d ∈ served (allChannels.filter fun d => decide (d < c)) s, d < c := fun d hd => by
    have := List.mem_filter.mp ((served_sublist _ s).subset hd)
    simpa using this.2
  have above : ∀ l t, (∀ d ∈ l, c ≤ d) → (served l t).filter (fun d => decide (d < c)) = [] := by
    intro l t hl
    refine List.filter_eq_nil_iff.mpr fun d hd => ?_
    have := hl d ((served_sublist l t).subset hd)
    simpa using this
  conv_lhs => rw [allChannels_split c, served_append, List.filter_append]
  rw [List.filter_eq_self.mpr (by simpa using below), above, List.append_nil]
  intro d hd
  rcases List.mem_cons.mp hd with rfl | hd
  · exact le_refl _
  · have := (List.mem_filter.mp hd).2
    exact le_of_lt (by simpa using this)

/-- A channel is served when R29 allows it at its turn. -/
theorem mem_served_iff (s : State) (c : Fin 8) : c ∈ served allChannels s ↔
    (examineList (allChannels.filter fun d => decide (d < c)) s).mayIssue c = true := by
  generalize ht : examineList (allChannels.filter fun d => decide (d < c)) s = t
  have before : c ∉ served (allChannels.filter fun d => decide (d < c)) s := fun h => by
    have := (List.mem_filter.mp ((served_sublist _ s).subset h)).2
    simp at this
  rw [allChannels_split c, served_append, ht, List.mem_append, or_iff_right before]
  by_cases h : t.mayIssue c = true
  · rw [(served_issue h _).1]
    exact iff_of_true List.mem_cons_self h
  · rw [(served_pass h _).1]
    refine iff_of_false (fun hm => ?_) h
    have := (List.mem_filter.mp ((served_sublist _ t).subset hm)).2
    simp at this

/-- What R29 asks of a channel at its turn, in terms of the state examined. -/
theorem mem_served (s : State) (ht : s.rfs.tagCounter < 256) (c : Fin 8) :
    c ∈ served allChannels s ↔
      s.enabled c = true ∧ 0 < s.rfs.channels[c].backlog ∧ s.rfs.channels[c].request = .none ∧
      s.ali.inLock = true ∧
      s.ali.outQueue.length +
        ((served allChannels s).filter fun d => decide (d < c)).length < 8 ∧
      LevelAllows s.scs.mode s.keepReference s.rfs.channels[c].backlog
        (∃ d, d ≠ c ∧ (s.rfs.channels[d].request ≠ .none ∨
          d ∈ served allChannels s ∧ d < c)) := by
  have nodup : (allChannels.filter fun d => decide (d < c)).Nodup := allChannels_nodup.filter _
  have channel := examineList_channel nodup s ht
  have ali := examineList_ali (allChannels.filter fun d => decide (d < c)) s ht
  obtain ⟨-, -, -, scs, tbs, -⟩ :=
    (examineList_examined (allChannels.filter fun d => decide (d < c)) s).blocks
  rw [← served_below] at channel ali
  rw [mem_served_iff, mayIssue_iff]
  generalize examineList (allChannels.filter fun d => decide (d < c)) s = t at *
  have on : t.enabled c = s.enabled c := enabled_congr (by rw [tbs]) c
  have keep : t.keepReference = s.keepReference := by
    simp only [State.keepReference, State.line, tbs]
  have mem : ∀ d, d ∈ (served allChannels s).filter (fun d => decide (d < c)) ↔
      d ∈ served allChannels s ∧ d < c := fun d => by rw [List.mem_filter, decide_eq_true_eq]
  have self : ¬ (c ∈ served allChannels s ∧ c < c) := fun h => absurd h.2 (lt_irrefl c)
  have others : ∀ d, t.rfs.channels[d].request ≠ .none ↔
      (s.rfs.channels[d].request ≠ .none ∨ d ∈ served allChannels s ∧ d < c) := fun d => by
    rw [channel d, ← mem]
    dsimp only
    split
    · next h => simp [h]
    · next h => simp [h]
  simp only [others, on, keep, scs, ali, channel c, mem, self, if_false, List.length_append,
    List.length_mapIdx]

/-- Settles O23: the channels served, walked through once for what they leave, and each read at its
own turn for what R29 asks of it. -/
theorem examinationIssuesEveryOwedRequest : Obligations.ExaminationIssuesEveryOwedRequest := by
  unfold Obligations.ExaminationIssuesEveryOwedRequest
  intro s ht
  have examined := examine_examined s
  have ali := examineList_ali allChannels s ht
  have fits := examineList_fits allChannels s
  have channel := examineList_channel allChannels_nodup s ht
  have counters := examineList_counters allChannels_nodup s
  have tagCounter := examineList_tagCounter allChannels s ht
  rw [← examine_eq_list] at ali fits tagCounter
  simp only [← examine_eq_list] at channel counters
  refine ⟨served allChannels s, served_sorted s, fun c => ?_, ali, fits,
    fun c => ⟨channel c, counters c⟩, tagCounter, examine_noneOwed s, ?_⟩
  · rw [mem_served s ht c]
    unfold LevelAllows
    cases s.scs.mode <;> simp
  · dsimp only
    generalize s.examine = t at examined
    rw [← examined.drainReports, ← examined.counters]
    exact examined.rest

end Sys2Proof.Proofs
end

section
/-! PROOFS. Events that end in an examination, and what enters and leaves the A-out queue by them:
the relayed messages (O15) and the frames the A-link takes (O20). -/

namespace Sys2Proof.Proofs

open Sys2Proof.Machine Sys2Proof.Laws

/-! ### The end of an event -/

/-- `t` is `x` after the examination that ends an event: requests may be issued, whose frames join
the queue, and none is owed. The drained report is left open. -/
structure EndsExamined (x t : State) : Prop where
  issues : x.OnlyIssues t
  queue : ∃ l, t.ali = { x.ali with outQueue := x.ali.outQueue ++ l } ∧
    ∀ a ∈ l, AOut.isRequest a = true
  noneOwed : t.NoneOwed
  counters : t.counters = { x.counters with channels := t.counters.channels }
  issued : ∀ c : Fin 8, t.counters.channels[c] =
    { x.counters.channels[c] with requestsIssued := t.counters.channels[c].requestsIssued }
  evu : t.evu = x.evu
  etu : t.etu = x.etu
  tru : t.tru = x.tru
  scs : t.scs = x.scs
  tbs : t.tbs = x.tbs
  outside : x.SameOutside t

theorem EndsExamined.flag {x t : State} (h : EndsExamined x t) (f : Machine.Flag) :
    t.flag f = x.flag f := flag_congr (by rw [h.evu]) f

theorem endsExamined (s x : State) : EndsExamined x (s.reportDrained x.examine) := by
  have h := examine_examined x
  have owed := examine_noneOwed x
  obtain ⟨evu, etu, tru, scs, tbs, outside⟩ := h.blocks
  generalize x.examine = u at h owed evu etu tru scs tbs outside
  constructor
  case issues =>
    intro c
    rw [reportDrained_channels]
    exact h.issues c
  case queue => rw [reportDrained_ali]; exact h.queue
  case noneOwed => exact noneOwed_congr (by simp) (by simp) (by simp) (by simp) owed
  case counters => rw [reportDrained_counters]; exact h.counters
  case issued => rw [reportDrained_counters]; exact h.issued
  case evu => rw [reportDrained_evu, evu]
  case etu => rw [reportDrained_etu, etu]
  case tru => rw [reportDrained_tru, tru]
  case scs => rw [reportDrained_scs, scs]
  case tbs => rw [reportDrained_tbs, tbs]
  case outside =>
    unfold State.SameOutside at outside ⊢
    simpa using outside

/-! ### Relayed messages (R177, R180) -/

section
variable {bytes : List Byte} {f : Frame} {s : State} (hr : s.resetHeld = false)
  (hl : s.mli.inLock = true) (hf : checkFrame .mLink bytes = .passed f) (hk : f.kind = 0x32)
include hr hl hf hk

theorem exec_relayMessage : exec (.relayMessage bytes) s =
    .next (s.reportDrained ((s.tally (countReceived .mLink)).offerRelayed f)) := by
  show Host.Outcome.next (s.event _) = _
  rw [event_live hr]
  simp only [State.receive, State.linkInLock, hl, if_true, hf, hk]

end

/-- The state with a relay message in the A-out queue, behind those waiting. -/
def relayJoined (f : Frame) (s : State) : State :=
  { s with ali.outQueue := s.ali.outQueue ++ [.relayed ⟨f.flags, f.payload⟩] }

theorem offerRelayed_joins {s : State} (h : s.ali.outQueue.length < 8) (f : Frame) :
    s.offerRelayed f = (relayJoined f s).examine := by
  simp only [State.offerRelayed, offer, Config.aOutPlaces, h, if_true]
  rfl

theorem offerRelayed_drops {s : State} (h : 8 ≤ s.ali.outQueue.length) (f : Frame) :
    s.offerRelayed f = (s.tally fun k =>
      { k with aLink.relayedDropped := inc32 k.aLink.relayedDropped }).raise .linkFault .none := by
  simp only [State.offerRelayed, offer, Config.aOutPlaces, Nat.not_lt.mpr h, if_false]

/-- Settles O15: the offer to the A-out queue in its two cases, the first ended by an examination.
-/
theorem relayMessageJoinsTheAOutQueue : Obligations.RelayMessageJoinsTheAOutQueue := by
  unfold Obligations.RelayMessageJoinsTheAOutQueue
  intro bytes f s hr hl hf hk
  rw [exec_relayMessage hr hl hf hk]
  refine ⟨fun room => ?_, fun full => ?_⟩
  · rw [offerRelayed_joins (s := s.tally _) room]
    have ends := endsExamined s (relayJoined f (s.tally (countReceived .mLink)))
    obtain ⟨l, ali, requests⟩ := ends.queue
    exact ⟨_, l, rfl, ali, requests, congrArg (·.mLink) ends.counters,
      congrArg (·.aLink) ends.counters, ends.issues, ends.evu, ends.etu, ends.tru, ends.scs,
      ends.tbs, ends.outside⟩
  · rw [offerRelayed_drops (s := s.tally _) full,
      reportDrained_same (by simp) (by simp) (by simp)]
    rfl

/-! ### The frames the A-link takes (R31, R177) -/

theorem aReady_of {s : State} (hl : s.ali.inLock = true) (hs : s.ali.sending = .none) :
    s.aReady = true := by
  simp only [State.aReady, hl, hs, Option.isNone_none, Bool.and_self]

/-- The state with the request `tag` of channel `c` taken from the queue, SENT and on the link. -/
def requestTaken (c : Fin 8) (tag : Nat) (s : State) : State :=
  (({ s with ali.outQueue := s.ali.outQueue.eraseP AOut.isRequest } : State).rfsChannel c fun r =>
    { r with request := r.request.map fun q =>
      { q with phase := .sent (s.lineField (·.refTimeout)) } }).startA (requestFrame c tag)

theorem takeRequest_eq {s : State} {c : Fin 8} {tag : Nat}
    (h : s.ali.outQueue.find? AOut.isRequest = .some (.request c tag)) :
    s.takeRequest = (requestTaken c tag s).examine := by
  simp only [State.takeRequest, h]
  rfl

theorem takeRelayed_eq {s : State} {m : Message} {rest : List AOut}
    (h : s.ali.outQueue = .relayed m :: rest) (none : rest.any AOut.isRequest = false) :
    s.takeRelayed =
      (({ s with ali.outQueue := rest } : State).startA (relayedFrame m)).examine := by
  simp only [State.takeRelayed, h, none, Bool.false_eq_true, if_false]

/-- Settles O20: each of the two frames is taken by its own operation, and an examination ends the
event. -/
theorem aOutQueueIsSentRequestsFirst : Obligations.AOutQueueIsSentRequestsFirst := by
  unfold Obligations.AOutQueueIsSentRequestsFirst
  constructor
  · intro s c tag hr hl hs first fits waits
    have exec_eq : exec .sendReferenceRequest s =
        .next (s.reportDrained (requestTaken c tag s).examine) := by
      show Host.Outcome.next (s.event _) = _
      rw [event_live hr, if_pos (aReady_of hl hs), takeRequest_eq first]
    have ends := endsExamined s (requestTaken c tag s)
    obtain ⟨l, ali, requests⟩ := ends.queue
    have channels : (requestTaken c tag s).rfs.channels = s.rfs.channels.set c
        { s.rfs.channels[c] with request := .some ⟨tag, .sent (s.lineField (·.refTimeout))⟩ } := by
      show s.rfs.channels.set c { s.rfs.channels[c] with
        request := s.rfs.channels[c].request.map fun q =>
          { q with phase := .sent (s.lineField (·.refTimeout)) } } = _
      rw [waits]
      rfl
    have frame : requestFrame c tag =
        ⟨0x21, 0, [BitVec.ofNat 8 c.val, BitVec.ofNat 8 tag]⟩ := by
      rw [requestFrame, be_one (by omega), be_one fits]
      rfl
    refine ⟨_, l, exec_eq, ?_, requests, fun d => ?_, congrArg (·.aLink) ends.counters,
      congrArg (·.mLink) ends.counters, ends.evu, ends.etu, ends.tru, ends.scs, ends.tbs,
      ends.outside⟩
    · rw [ali, ← frame, ← hl]
      rfl
    · have issued := ends.issues d
      rwa [channels] at issued
  · intro s m rest hr hl hs queue none
    have exec_eq : exec .sendRelayedMessage s = .next (s.reportDrained
        (({ s with ali.outQueue := rest } : State).startA (relayedFrame m)).examine) := by
      show Host.Outcome.next (s.event _) = _
      rw [event_live hr, if_pos (aReady_of hl hs), takeRelayed_eq queue none]
    have ends := endsExamined s
      (({ s with ali.outQueue := rest } : State).startA (relayedFrame m))
    obtain ⟨l, ali, requests⟩ := ends.queue
    refine ⟨_, l, exec_eq, ?_, requests, ends.issues, congrArg (·.aLink) ends.counters,
      congrArg (·.mLink) ends.counters, ends.evu, ends.etu, ends.tru, ends.scs, ends.tbs,
      ends.outside⟩
    rw [ali, ← hl]
    rfl

end Sys2Proof.Proofs
end

section
/-! PROOFS. The A-link's lock (O17): every outstanding request cancelled with its frame, and the
flags and counters of the change (R36, R37, R173, R175). -/

namespace Sys2Proof.Proofs

open Sys2Proof.Machine Sys2Proof.Laws

/-! ### Every request cancelled (R37) -/

/-- What a cancellation leaves beside the request, its frame and its count. -/
theorem cancel_frame (c : Fin 8) (s : State) :
    (s.cancel c).rfs.tagCounter = s.rfs.tagCounter ∧ (s.cancel c).ali.inLock = s.ali.inLock ∧
      (s.cancel c).ali.sending = s.ali.sending ∧
      (s.cancel c).counters.aLink = s.counters.aLink := by
  cases h : s.rfs.channels[c].request with
  | none => rw [cancel_none h]; exact ⟨rfl, rfl, rfl, rfl⟩
  | some q => rw [cancel_some h]; exact ⟨rfl, rfl, rfl, rfl⟩

/-- Erasing an element that a filter leaves out changes nothing of what it keeps. -/
theorem filter_eraseP {α : Type} {p q : α → Bool} (h : ∀ a, p a = true → q a = false)
    (l : List α) :
    (l.eraseP p).filter q = l.filter q := by
  induction l with
  | nil => rfl
  | cons a l ih =>
    by_cases ha : p a = true
    · rw [List.eraseP_cons_of_pos ha,
        List.filter_cons_of_neg (by rw [h a ha]; exact Bool.false_ne_true)]
    · rw [List.eraseP_cons_of_neg ha, List.filter_cons, List.filter_cons, ih]

/-- A cancellation leaves the relayed messages of the queue (R36). -/
theorem cancel_relayed (c : Fin 8) (s : State) :
    (s.cancel c).ali.outQueue.filter (fun a => !a.isRequest) =
      s.ali.outQueue.filter (fun a => !a.isRequest) := by
  have request : ∀ a : AOut, a.isRequestOf c = true → (!a.isRequest) = false := fun a ha => by
    obtain ⟨tag, rfl⟩ := (isRequestOf_iff c a).mp ha
    rfl
  rcases h : s.rfs.channels[c].request with _ | ⟨tag, _ | timeout⟩
  · rw [cancel_none h]
  · rw [cancel_some h]
    exact filter_eraseP request _
  · rw [cancel_some h]

/-- A count of cancelled requests after its channel's request was cancelled. -/
def cancelCounted (r : RfsChannel) (k : ChannelCounters) : ChannelCounters :=
  if r.request.isSome then { k with requestsCancelled := inc32 k.requestsCancelled } else k

theorem cancelAll_channel (s : State) (d : Fin 8) :
    s.cancelAll.rfs.channels[d] = { s.rfs.channels[d] with request := .none } ∧
      s.cancelAll.counters.channels[d] =
        cancelCounted s.rfs.channels[d] s.counters.channels[d] := by
  have both := forChannels_get (fun _ => ())
    (fun t d => (t.rfs.channels[d], t.counters.channels[d]))
    (fun _ _ x => ({ x.1 with request := .none }, cancelCounted x.1 x.2)) State.cancel
    (fun _ _ => rfl) (fun c d t => by
      rw [cancel_get, cancel_counters_get]
      by_cases h : c = d
      · subst h; simp only [if_true, cancelCounted]
      · simp only [h, if_false]) s d
  unfold State.cancelAll
  exact Prod.mk.inj both

/-- What the cancellation of every request leaves. -/
theorem cancelAll_frame (s : State) :
    s.cancelAll.rfs.tagCounter = s.rfs.tagCounter ∧ s.cancelAll.ali.inLock = s.ali.inLock ∧
      s.cancelAll.ali.sending = s.ali.sending ∧ s.cancelAll.counters.aLink = s.counters.aLink ∧
      s.cancelAll.ali.outQueue.filter (fun a => !a.isRequest) =
        s.ali.outQueue.filter (fun a => !a.isRequest) := by
  have relayed := forChannels_keeps (fun t => t.ali.outQueue.filter fun a => !a.isRequest)
    State.cancel cancel_relayed s
  unfold State.cancelAll
  exact ⟨forChannels_keeps (·.rfs.tagCounter) State.cancel
      (fun c t => have ⟨tagCounter, _⟩ := cancel_frame c t; tagCounter) s,
    forChannels_keeps (·.ali.inLock) State.cancel
      (fun c t => have ⟨_, inLock, _⟩ := cancel_frame c t; inLock) s,
    forChannels_keeps (·.ali.sending) State.cancel
      (fun c t => have ⟨_, _, sending, _⟩ := cancel_frame c t; sending) s,
    forChannels_keeps (·.counters.aLink) State.cancel
      (fun c t => have ⟨_, _, _, counters⟩ := cancel_frame c t; counters) s,
    relayed⟩

/-- With every request cancelled, no request frame is left in a queue that held those of the QUEUED
requests (R36, R177). -/
theorem cancelAll_noRequest {s : State} (h : s.RequestsQueued) :
    ∀ a ∈ s.cancelAll.ali.outQueue, a.isRequest = false := by
  have queued : s.cancelAll.RequestsQueued := (Keeps.forChannels cancel_keeps s).queued h
  intro a ha
  cases a with
  | relayed m => rfl
  | request c tag =>
    have none := queued c tag
    rw [(cancelAll_channel s c).1, if_neg nofun, List.count_eq_zero] at none
    exact absurd ha none

/-! ### The change of lock (R173, R175) -/

/-- The state once the A-link is out of lock: the frame being sent lost, and a frame partly received
discarded as a length error. -/
def lockLost (partly : Bool) (s : State) : State :=
  (({ s with ali.sending := .none } : State).changeALock false).discardPartial .aLink partly

theorem changeALock_flag (inLock : Bool) (s : State) (g : Machine.Flag) :
    (s.changeALock inLock).flag g =
      if g = .alinkState then (s.flag g).occur .none else s.flag g := raise_flag _ _ _ _

theorem changeALock_ali (inLock : Bool) (s : State) :
    (s.changeALock inLock).ali = { s.ali with inLock := inLock } := raise_ali _ _ _

theorem changeALock_counters (inLock : Bool) (s : State) : (s.changeALock inLock).counters =
    { s.counters with
      aLink.lockChanges := inc32 s.counters.aLink.lockChanges
      evu := (s.changeALock inLock).counters.evu } := raise_counters _ _ _

theorem changeALock_blocks (inLock : Bool) (s : State) :
    let t := s.changeALock inLock
    t.rfs = s.rfs ∧ t.etu = s.etu ∧ t.tru = s.tru ∧ t.scs = s.scs ∧ t.tbs = s.tbs ∧
      s.SameOutside t := by
  simp [State.changeALock, State.SameOutside]

theorem lockLost_blocks (partly : Bool) (s : State) :
    let t := lockLost partly s
    t.rfs = s.rfs ∧ t.ali = { s.ali with inLock := false, sending := .none } ∧ t.etu = s.etu ∧
      t.tru = s.tru ∧ t.scs = s.scs ∧ t.tbs = s.tbs ∧ s.SameOutside t := by
  unfold lockLost State.discardPartial
  split <;> simp [State.changeALock, State.SameOutside]

theorem lockLost_flag (partly : Bool) (s : State) (g : Machine.Flag) :
    (lockLost partly s).flag g =
      if g = .alinkState ∨ g = .linkFault ∧ partly = true then (s.flag g).occur .none
      else s.flag g := by
  unfold lockLost State.discardPartial State.discardFrame
  cases partly with
  | false =>
    rw [if_neg Bool.false_ne_true, changeALock_flag]
    simp only [Bool.false_eq_true, and_false, or_false]
    rfl
  | true =>
    rw [if_pos rfl, raise_flag]
    show (if g = .linkFault then
        ((({ s with ali.sending := .none } : State).changeALock false).flag g).occur .none
      else (({ s with ali.sending := .none } : State).changeALock false).flag g) = _
    rw [changeALock_flag]
    by_cases hf : g = .linkFault
    · subst hf; rfl
    · simp only [hf, false_and, or_false, if_false]
      rfl

theorem lockLost_counters (partly : Bool) (s : State) :
    (lockLost partly s).counters.channels = s.counters.channels ∧
      (lockLost partly s).counters.aLink = { s.counters.aLink with
        lockChanges := inc32 s.counters.aLink.lockChanges
        lengthErrors := if partly then inc32 s.counters.aLink.lengthErrors
          else s.counters.aLink.lengthErrors } := by
  have changed := changeALock_counters false { s with ali.sending := .none }
  unfold lockLost State.discardPartial State.discardFrame
  cases partly with
  | false => rw [if_neg Bool.false_ne_true, changed]; exact ⟨rfl, rfl⟩
  | true =>
    rw [if_pos rfl, raise_counters, State.tally, changed]
    exact ⟨rfl, rfl⟩

/-- Out of lock an examination issues nothing. -/
theorem loseALock_eq {partly : Bool} {s : State} (h : s.ali.inLock = true) :
    s.loseALock partly = (lockLost partly s).cancelAll := by
  obtain ⟨-, ali, -⟩ := lockLost_blocks partly s
  obtain ⟨-, inLock, -⟩ := cancelAll_frame (lockLost partly s)
  have out : (lockLost partly s).cancelAll.ali.inLock = false := by rw [inLock, ali]
  rw [State.loseALock, if_pos h]
  exact examine_idle fun c => mayIssue_outOfLock out c

theorem gainALock_eq {s : State} (h : s.ali.inLock = false) :
    s.gainALock = (s.changeALock true).examine := by
  rw [State.gainALock, if_neg (by rw [h]; exact Bool.false_ne_true)]

/-- Settles O17: a lock gained is its change and an examination; a lock lost is its change and every
request cancelled, after which nothing can be issued. -/
theorem aLinkLockDecidesRequests : Obligations.ALinkLockDecidesRequests := by
  unfold Obligations.ALinkLockDecidesRequests
  constructor
  · intro s hr hl
    have exec_eq : exec .aLinkLockGained s =
        .next (s.reportDrained (s.changeALock true).examine) := by
      show Host.Outcome.next (s.event _) = _
      rw [event_live hr, gainALock_eq hl]
    have ends := endsExamined s (s.changeALock true)
    obtain ⟨rfs, etu, tru, scs, tbs, outside⟩ := changeALock_blocks true s
    obtain ⟨l, ali, requests⟩ := ends.queue
    have issues := ends.issues
    have sameOutside := ends.outside
    generalize s.reportDrained (s.changeALock true).examine = t at *
    unfold State.OnlyIssues at issues
    unfold State.SameOutside at sameOutside outside
    rw [rfs] at issues
    refine ⟨t, l, exec_eq, ?_, requests, ?_, fun g hg => ?_, ?_, issues, ends.noneOwed,
      ends.etu.trans etu, ends.tru.trans tru, ends.scs.trans scs, ends.tbs.trans tbs, ?_⟩
    · rw [ali, changeALock_ali]
    · rw [ends.flag, changeALock_flag, if_pos rfl]
    · rw [ends.flag, changeALock_flag, if_neg hg]
    · rw [ends.counters, changeALock_counters]
    · unfold State.SameOutside
      simpa only [outside] using sameOutside
  · intro partly s hr hl
    have exec_eq : exec (.aLinkLockLost partly) s =
        .next (s.reportDrained (lockLost partly s).cancelAll) := by
      show Host.Outcome.next (s.event _) = _
      rw [event_live hr, loseALock_eq hl]
    obtain ⟨rfs, ali, etu, tru, scs, tbs, outside⟩ := lockLost_blocks partly s
    obtain ⟨channels, aLink⟩ := lockLost_counters partly s
    obtain ⟨tagCounter, inLock, sending, counters, relayed⟩ := cancelAll_frame (lockLost partly s)
    have flag : ∀ g, (s.reportDrained (lockLost partly s).cancelAll).flag g =
        if g = .alinkState ∨ g = .linkFault ∧ partly = true then (s.flag g).occur .none
        else s.flag g := fun g =>
      (flag_congr (by simp) g).trans (lockLost_flag partly s g)
    refine ⟨_, exec_eq, ?_, ?_, ?_, fun queued => ?_, fun c => ?_, ?_, ?_, ?_,
      fun g ha hf => ?_, ?_, ?_, ?_, ?_, ?_, ?_⟩
    · rw [reportDrained_ali, inLock, ali]
    · rw [reportDrained_ali, sending, ali]
    · rw [reportDrained_ali, relayed, ali]
    · rw [reportDrained_ali]
      have lost : Keeps s (lockLost partly s) :=
        .of_unread (by rw [rfs]) (by rw [ali]) (by rw [tbs])
      exact cancelAll_noRequest (lost.queued queued)
    · rw [reportDrained_channels, reportDrained_counters, (cancelAll_channel _ c).1,
        (cancelAll_channel _ c).2, rfs, channels]
      refine ⟨rfl, ?_⟩
      unfold cancelCounted
      split <;> rfl
    · rw [reportDrained_tagCounter, tagCounter, rfs]
    · rw [flag, if_pos (.inl rfl)]
    · rw [flag]
      cases partly <;> rfl
    · rw [flag, if_neg (by simp [ha, hf])]
    · rw [reportDrained_counters, counters, aLink]
    · rw [reportDrained_etu, cancelAll_etu, etu]
    · rw [reportDrained_tru, cancelAll_tru, tru]
    · rw [reportDrained_scs, cancelAll_scs, scs]
    · rw [reportDrained_tbs, cancelAll_tbs, tbs]
    · unfold State.SameOutside at outside ⊢
      simpa using outside

end Sys2Proof.Proofs
end

section
/-! PROOFS. The expiries of the Reference Scheduler and the millisecond mark (O24). -/

namespace Sys2Proof.Proofs

open Sys2Proof.Machine Sys2Proof.Laws

/-! ### The interval expiry (R27) -/

/-- The state whose interval counter of channel `c` is reloaded and whose backlog has taken one
more. -/
def intervalExpired (c : Fin 8) (s : State) : State :=
  (s.reloadInterval c).setBacklog c (min ((s.ref c).backlog + 1) backlogMax)

theorem intervalOut_eq {c : Fin 8} {n : Nat} {s : State} (run : s.intervalsRun = true)
    (h : s.rfs.channels[c].interval = .some n) :
    s.intervalOut c = (intervalExpired c s).examine := by
  have kept : ((s.reloadInterval c).ref c).backlog = (s.ref c).backlog := by
    unfold State.ref
    rw [reloadInterval_get, if_pos rfl]
  have present : (s.ref c).interval = .some n := h
  simp only [State.intervalOut, run, present, Option.isSome_some, Bool.and_self, if_true, kept,
    intervalExpired]

theorem intervalExpired_channels {c : Fin 8} {e : ChannelEntry} {s : State}
    (he : enabledEntry s.tbs.active.channels[c] = .some e) (hb : s.rfs.channels[c].backlog ≤ 15)
    (d : Fin 8) : (intervalExpired c s).rfs.channels[d] = (s.rfs.channels.set c
      { s.rfs.channels[c] with
        interval := .some e.refInterval
        backlog := if s.rfs.channels[c].backlog = 15 then 15
          else s.rfs.channels[c].backlog + 1 })[d] := by
  have backlog : min ((s.ref c).backlog + 1) backlogMax =
      if s.rfs.channels[c].backlog = 15 then 15 else s.rfs.channels[c].backlog + 1 := by
    unfold State.ref backlogMax
    split <;> omega
  rw [intervalExpired, setBacklog_get, reloadInterval_get, reloadInterval_get, he, backlog]
  by_cases hd : c = d
  · subst hd
    simp only [if_true, Fin.getElem_fin, Vector.getElem_set_self]
    rfl
  · have hd' : (c : Nat) ≠ d := fun h => hd (Fin.ext h)
    simp only [if_neg hd, Fin.getElem_fin, Vector.getElem_set_ne _ _ hd']

/-- REFERENCE_OVERDUE occurs as the backlog rises from 11 to 12 (R25). -/
theorem intervalExpired_flag (c : Fin 8) (s : State) (g : Machine.Flag) :
    (intervalExpired c s).flag g =
      if g = .referenceOverdue ∧ s.rfs.channels[c].backlog = 11 then (s.flag g).occur .none
      else s.flag g := by
  have flags : (s.reloadInterval c).flag g = s.flag g := flag_congr (by simp) g
  have rises : s.rfs.channels[c].backlog < 12 ∧ 12 ≤ min ((s.ref c).backlog + 1) backlogMax ↔
      s.rfs.channels[c].backlog = 11 := by
    unfold State.ref backlogMax
    omega
  rw [intervalExpired, setBacklog_flag, reloadInterval_get, if_pos rfl, flags]
  simp only [rises]

/-! ### The request timeout (R35) -/

/-- The state whose SENT request of channel `c` is lost. -/
def requestLost (c : Fin 8) (s : State) : State :=
  ((s.dropRequest c).raise .referenceLost .none).tallyChannel c fun k =>
    { k with referencesLost := inc32 k.referencesLost }

theorem requestOut_eq {c : Fin 8} {tag n : Nat} {s : State}
    (h : s.rfs.channels[c].request = .some ⟨tag, .sent n⟩) :
    s.requestOut c = (requestLost c s).examine := by
  have sent : (s.ref c).isSent = true := (isSent_iff _).mpr ⟨tag, n, h⟩
  simp only [State.requestOut, sent, if_true, requestLost]

theorem requestLost_flag (c : Fin 8) (s : State) (g : Machine.Flag) : (requestLost c s).flag g =
    if g = .referenceLost then (s.flag g).occur .none else s.flag g :=
  raise_flag .referenceLost g .none (s.dropRequest c)

theorem requestLost_counted (c : Fin 8) (s : State) :
    (requestLost c s).counters.channels[c].referencesLost =
      inc32 s.counters.channels[c].referencesLost := by
  rw [requestLost, tallyChannel_get, if_pos rfl, raise_counters_channels]
  rfl

/-! ### The mark -/

theorem debounceDue_iff (s : State) : s.debounceDue = true ↔
    s.tru.debounce = .some 0 ∧ s.rawLevel ≠ s.tru.detectorLevel := by
  simp only [State.debounceDue, Bool.and_eq_true, decide_eq_true_eq]

/-- On an empty queue with no act of its own a step is a mark. -/
theorem step_mark {s : State} (hp : s.pending = []) (ha : s.ownAct = .none) :
    step s = .next s.millisecond := by
  unfold step
  rw [hp]
  dsimp only
  rw [ha]

/-- Settles O24: the two expiries end in an examination, and the mark is the walk over the counters.
-/
theorem referenceExpiriesCountAndLose : Obligations.ReferenceExpiriesCountAndLose := by
  unfold Obligations.ReferenceExpiriesCountAndLose
  refine ⟨fun c e n s hr run he hi hb => ?_, fun c tag n s hr sent => ?_, fun s hr hp ha => ?_⟩
  · have exec_eq : exec (.referenceIntervalExpiry c) s =
        .next (s.reportDrained (intervalExpired c s).examine) := by
      show Host.Outcome.next (s.event _) = _
      rw [event_live hr, intervalOut_eq run hi]
    have ends := endsExamined s (intervalExpired c s)
    obtain ⟨l, ali, -⟩ := ends.queue
    have sameAli : (intervalExpired c s).ali = s.ali := by simp [intervalExpired]
    have flag := ends.flag
    simp only [intervalExpired_flag] at flag
    refine ⟨_, exec_eq, fun d => ?_, ?_, fun g hg => ?_, ?_, ?_, ?_, ?_, ?_, ?_, ?_⟩
    · have issued := ends.issues d
      rwa [intervalExpired_channels he hb] at issued
    · rw [flag]
      simp only [true_and]
    · rw [flag, if_neg (fun h => hg h.1)]
    · rw [ali, sameAli]
    · rw [ali, sameAli]
    · rw [ends.etu]; simp [intervalExpired]
    · rw [ends.tru]; simp [intervalExpired]
    · rw [ends.scs]; simp [intervalExpired]
    · rw [ends.tbs]; simp [intervalExpired]
    · unfold State.SameOutside
      simp [intervalExpired]
  · have exec_eq : exec (.referenceTimeout c) s =
        .next (s.reportDrained (requestLost c s).examine) := by
      show Host.Outcome.next (s.event _) = _
      rw [event_live hr, requestOut_eq sent]
    have ends := endsExamined s (requestLost c s)
    obtain ⟨l, ali, -⟩ := ends.queue
    have sameAli : (requestLost c s).ali = s.ali := by simp [requestLost]
    have channels : (requestLost c s).rfs.channels =
        s.rfs.channels.set c { s.rfs.channels[c] with request := .none } := by
      rw [requestLost, tallyChannel_rfs, raise_rfs]
      rfl
    refine ⟨_, exec_eq, fun d => ?_, ends.noneOwed, ?_, fun g hg => ?_, ?_, ?_, ?_, ?_, ?_, ?_,
      ?_, ?_⟩
    · have issued := ends.issues d
      rwa [channels] at issued
    · rw [ends.flag, requestLost_flag, if_pos rfl]
    · rw [ends.flag, requestLost_flag, if_neg hg]
    · rw [ends.issued, requestLost_counted]
    · rw [ali, sameAli]
    · rw [ali, sameAli]
    · rw [ends.etu]; simp [requestLost]
    · rw [ends.tru]; simp [requestLost]
    · rw [ends.scs]; simp [requestLost]
    · rw [ends.tbs]; simp [requestLost]
    · unfold State.SameOutside
      simp [requestLost]
  · intro run apart
    have running : s.intervalsRun = run := by
      unfold State.intervalsRun
      cases hm : s.scs.mode <;> simp only [run, hm]
    refine ⟨_, step_mark hp ha, ?_⟩
    rw [millisecond_eq hr, running]
    refine ⟨fun c => ?_, ?_, ?_, ?_, rfl⟩
    · simp only [Fin.getElem_fin, Vector.getElem_map]
      rfl
    · rfl
    · rfl
    · rw [hp]
      by_cases due : s.debounceDue = true
      · rw [if_pos due, if_pos ((debounceDue_iff s).mp due)]
        rfl
      · rw [if_neg due, if_neg (fun h => due ((debounceDue_iff s).mpr h))]

end Sys2Proof.Proofs
end

section
/-! PROOFS. The departure from PARKED (R40): the backlogs raised to 12 and the counters reloaded. -/

namespace Sys2Proof.Proofs

open Sys2Proof.Machine Sys2Proof.Laws

/-- A backlog taken changes the counters by a notice alone (R166). -/
theorem setBacklog_counters (c : Fin 8) (n : Nat) (s : State) : (s.setBacklog c n).counters =
    { s.counters with evu := (s.setBacklog c n).counters.evu } := by
  unfold State.setBacklog
  dsimp only
  split
  · exact raise_counters _ _ _
  · rfl

/-- A channel as the departure from PARKED without keep-reference makes it, under its active entry.
-/
def departed (active : Option ChannelEntry) (r : RfsChannel) : RfsChannel :=
  if (enabledEntry active).isSome then
    { r with backlog := max r.backlog 12, interval := (enabledEntry active).map (·.refInterval) }
  else r

/-- One channel's share in the departure from PARKED. -/
def departOne (c : Fin 8) (s : State) : State :=
  if s.enabled c then (s.setBacklog c (max (s.ref c).backlog overdueFrom)).reloadInterval c else s

theorem leaveParked_eq (s : State) :
    s.leaveParked = if s.keepReference then s else forChannels departOne s := rfl

theorem departOne_get (c d : Fin 8) (s : State) : (departOne c s).rfs.channels[d] =
    if c = d then departed s.tbs.active.channels[c] s.rfs.channels[c] else s.rfs.channels[d] := by
  unfold departOne departed State.enabled State.entry
  split
  · rw [reloadInterval_get, setBacklog_get, setBacklog_get, setBacklog_tbs]
    by_cases hd : c = d
    · simp only [if_pos hd, if_true]
      rfl
    · simp only [if_neg hd]
  · by_cases hd : c = d
    · subst hd; rw [if_pos rfl]
    · rw [if_neg hd]

theorem departOne_tbs (c : Fin 8) (s : State) : (departOne c s).tbs = s.tbs := by
  unfold departOne
  split
  · simp
  · rfl

theorem leaveParked_channel (s : State) (d : Fin 8) : s.leaveParked.rfs.channels[d] =
    if s.keepReference then s.rfs.channels[d]
    else departed s.tbs.active.channels[d] s.rfs.channels[d] := by
  rw [leaveParked_eq]
  split
  · rfl
  · exact forChannels_get (·.tbs) (fun t d => t.rfs.channels[d])
      (fun tbs c r => departed tbs.active.channels[c] r) departOne departOne_tbs departOne_get s d

/-- The departure raises no flag but REFERENCE_OVERDUE (R25). -/
theorem leaveParked_flag {g : Machine.Flag} (hg : g ≠ .referenceOverdue) (s : State) :
    s.leaveParked.flag g = s.flag g := by
  have one : ∀ c t, (departOne c t).flag g = t.flag g := by
    intro c t
    unfold departOne
    split
    · exact (flag_congr rfl g).trans
        ((setBacklog_flag c _ g t).trans (if_neg fun h => hg h.1))
    · rfl
  rw [leaveParked_eq]
  split
  · rfl
  · exact forChannels_keeps (·.flag g) departOne one s

/-- The departure changes the counters by notices alone (R166). -/
theorem leaveParked_counters (s : State) : s.leaveParked.counters =
    { s.counters with evu := s.leaveParked.counters.evu } := by
  have one : ∀ c t, ({ (departOne c t).counters with evu := s.counters.evu } : Counters) =
      { t.counters with evu := s.counters.evu } := by
    intro c t
    unfold departOne
    split
    · rw [reloadInterval_counters, setBacklog_counters]
    · rfl
  have all : ({ s.leaveParked.counters with evu := s.counters.evu } : Counters) = s.counters := by
    rw [leaveParked_eq]
    split
    · rfl
    · exact forChannels_keeps (fun t => ({ t.counters with evu := s.counters.evu } : Counters))
        departOne one s
  rw [← all]

end Sys2Proof.Proofs
end

section
/-! PROOFS. The head-end that opens a shell (O29), from the detector or by FORCE HEAD (R74 to R78).
-/

namespace Sys2Proof.Proofs

open Sys2Proof.Machine Sys2Proof.Laws

/-! ### The row of a head-end -/

/-- The blocks that the row of a head-end leaves, beside the detector and the Command Unit. -/
structure SameBesideRow (s u : State) : Prop where
  scs : u.scs = s.scs
  tbs : u.tbs = s.tbs
  rfs : u.rfs = s.rfs
  evu : u.evu = s.evu
  etu : u.etu = s.etu
  rpb : u.rpb = s.rpb
  ldu : u.ldu = s.ldu
  mli : u.mli = s.mli
  pins : u.pins = s.pins
  length : u.tru.lengthCounter = s.tru.lengthCounter
  counters : u.counters.scs = s.counters.scs

theorem headEndFrom_same {s u : State} {row : Instr} (h : s.HeadEndFrom row u) :
    SameBesideRow s u := by
  rcases h with ⟨-, -, -, -, -, rfl⟩ | ⟨-, c, rest, -, -, -, rfl⟩
  · exact ⟨rfl, rfl, rfl, rfl, rfl, rfl, rfl, rfl, rfl, rfl, rfl⟩
  · exact ⟨rfl, rfl, rfl, rfl, rfl, rfl, rfl, rfl, rfl, rfl, rfl⟩

/-- The row of a head-end takes the head-end of the state it finds, but for the Command Unit, which
ends as the row has it. -/
theorem exec_headEnd {s u : State} {row : Instr} (h : s.HeadEndFrom row u) :
    ∃ v : State, v = { u with cmu := v.cmu } ∧
      exec row s = .next (s.reportDrained { v.headEnd with cmu := u.cmu }) := by
  rcases h with detector | ⟨rfl, c, rest, waits, hcode, hargs, rfl⟩
  · obtain ⟨rfl, -⟩ := id detector
    refine ⟨u, rfl, ?_⟩
    have kept : u.headEnd = { u.headEnd with cmu := u.cmu } := by
      rw [← headEnd_cmu u]
    rw [debounceExpiry_headEnd (.inl detector)]
    exact congrArg (fun t => Host.Outcome.next (s.reportDrained t)) kept
  · have row : c.row = .forceHead := by simp [Command.row, hcode]
    refine ⟨{ s with cmu.commands := rest }, rfl, ?_⟩
    show Host.Outcome.next (s.event _) = _
    rw [event_live waits.1, takeCommand_waits _ waits row]
    simp only [noArguments, hargs, if_true, State.forceHead, State.answer, headEnd_cmu]
    rfl

/-! ### The shell opened -/

/-- The contexts before and after one, in ascending order. -/
theorem allContexts_split (i : Fin 4) : allContexts =
    (allContexts.filter fun j => decide (j < i)) ++
      i :: allContexts.filter fun j => decide (i < j) := by
  revert i; decide

/-- The lowest-numbered FREE context is the one allocated (R76). -/
theorem allocate_lowest {s : State} {i : Fin 4} (hi : s.scs.contexts[i] = .none)
    (below : ∀ j : Fin 4, j < i → s.scs.contexts[j] ≠ .none) : s.allocate = (.some i, s) := by
  have found : (allContexts.find? fun j => s.scs.contexts[j].isNone) = .some i := by
    rw [List.find?_eq_some_iff_append]
    refine ⟨by rw [hi]; rfl, _, _, allContexts_split i, fun j hj => ?_⟩
    have lower : j < i := by simpa using (List.mem_filter.mp hj).2
    simpa [Option.isSome_iff_ne_none] using below j lower
  simp only [State.allocate, found]

/-- With no context OPEN there is no open context (R77). -/
theorem openContext_none {s : State} (h : ∀ j, s.holds Shell.isOpen j = false) :
    s.openContext = .none := by
  have none : allContexts.filter (s.holds Shell.isOpen) = [] :=
    List.filter_eq_nil_iff.mpr fun j _ => by rw [h j]; exact Bool.false_ne_true
  rw [State.openContext, State.oldest, none]
  rfl

/-- A head-end with no shell OPEN, nothing pending, a FREE context and a bank opens a shell (R77).
-/
theorem headEnd_opens {s : State} {i : Fin 4} {bank : ProductBank} (hm : s.scs.mode ≠ .unconfigured)
    (ho : ∀ j, s.holds Shell.isOpen j = false) (hp : s.tbs.activationPending = false)
    (hi : s.scs.contexts[i] = .none) (below : ∀ j : Fin 4, j < i → s.scs.contexts[j] ≠ .none)
    (hn : s.scs.nextSequence ≠ 0) (hb : s.tbs.active.banks[s.tbs.selectedBank] = .some bank) :
    s.headEnd = (s.openShell i bank).settleOpened := by
  have step1 : s.headStep1 = s := by rw [State.headStep1, openContext_none ho]
  have step2 : s.headStep2 = s := by
    rw [State.headStep2, if_neg (by rw [hp]; exact Bool.false_ne_true)]
  have bound : s.bindableBank = .some bank := by rw [State.bindableBank, if_neg hn, hb]
  rw [State.headEnd, if_neg hm, step1, step2, State.headSteps34, allocate_lowest hi below]
  dsimp only
  rw [bound]

theorem openShell_scs (i : Fin 4) (bank : ProductBank) (s : State) : (s.openShell i bank).scs =
    { s.scs with
      contexts := s.scs.contexts.set i
        (.some (newShell bank s.scs.nextSequence s.tbs.generation s.currentLength))
      nextSequence := nextSequenceAfter s.scs.nextSequence } := by
  unfold State.openShell
  rw [tally_scs, raise_scs]

theorem openShell_flag (i : Fin 4) (bank : ProductBank) (s : State) (g : Machine.Flag) :
    (s.openShell i bank).flag g =
      if g = .shellOpened then (s.flag g).occur (.some s.scs.nextSequence) else s.flag g :=
  raise_flag .shellOpened g _ _

theorem openShell_counters (i : Fin 4) (bank : ProductBank) (s : State) :
    (s.openShell i bank).counters.scs.shellsOpened = inc32 s.counters.scs.shellsOpened ∧
      (s.openShell i bank).counters.tru = s.counters.tru := by
  unfold State.openShell
  dsimp only [State.tally]
  rw [raise_counters]
  exact ⟨rfl, rfl⟩

theorem newShell_fresh (bank : ProductBank) (sequence generation headMark : Nat) :
    (newShell bank sequence generation headMark).Fresh sequence generation bank headMark :=
  ⟨rfl, rfl, rfl, rfl, rfl, rfl, rfl, rfl, rfl, rfl, rfl, rfl, rfl, rfl, rfl, rfl, rfl, rfl, rfl⟩

/-! ### The mode after it (R78, R147) -/

/-- The SCS in MEASURING, with what a head-end leaves of a park request. -/
def measuring (scs : Scs) : Scs :=
  { scs with
    mode := .measuring
    drainTimer := .none
    parkRequest := if scs.mode = .parked then false else scs.parkRequest }

/-- What the change to MEASURING leaves of the state it finds: the mode, and on leaving PARKED the
flag PARK_STATE and the backlogs (R40, R78). -/
structure SettledOpened (s t : State) : Prop where
  scs : t.scs = measuring s.scs
  parkState : t.flag .parkState =
    if s.scs.mode = .parked then (s.flag .parkState).occur .none else s.flag .parkState
  flag : ∀ g, g ≠ .parkState → g ≠ .referenceOverdue → t.flag g = s.flag g
  backlog : ∀ c : Fin 8, t.rfs.channels[c].backlog =
    if s.scs.mode = .parked ∧ s.keepReference = false ∧ s.enabled c = true then
      max s.rfs.channels[c].backlog 12 else s.rfs.channels[c].backlog
  shells : t.counters.scs = s.counters.scs
  detector : t.counters.tru = s.counters.tru

/-- The examination that follows changes nothing of these. -/
theorem settledOpened_examined {s t : State} (h : SettledOpened s t) :
    SettledOpened s t.examine := by
  have examined := examine_examined t
  obtain ⟨evu, -, -, scs, -, -⟩ := examined.blocks
  have flag : ∀ g, t.examine.flag g = t.flag g := flag_congr (by rw [evu])
  constructor
  case scs => rw [scs, h.scs]
  case parkState => rw [flag, h.parkState]
  case flag => exact fun g hp ho => (flag g).trans (h.flag g hp ho)
  case backlog => exact fun c => (examined.issues c).1.trans (h.backlog c)
  case shells => rw [examined.counters]; exact h.shells
  case detector => rw [examined.counters]; exact h.detector

theorem settledOpened_elsewhere {s : State} (h : s.scs.mode ≠ .parked) :
    SettledOpened s { s with scs := measuring s.scs } := by
  refine ⟨rfl, ?_, fun _ _ _ => rfl, fun c => ?_, rfl, rfl⟩
  · rw [if_neg h]; rfl
  · rw [if_neg (fun k => h k.1)]

theorem departed_backlog (active : Option ChannelEntry) (r : RfsChannel) :
    (departed active r).backlog =
      if (enabledEntry active).isSome then max r.backlog 12 else r.backlog := by
  unfold departed
  split <;> rfl

theorem settledOpened_parked {s : State} (h : s.scs.mode = .parked) :
    SettledOpened s
      (({ s with scs := measuring s.scs } : State).raise .parkState .none).leaveParked := by
  generalize hu : ({ s with scs := measuring s.scs } : State).raise .parkState .none = u
  have scs : u.scs = measuring s.scs := by rw [← hu, raise_scs]
  have rfs : u.rfs = s.rfs := by rw [← hu, raise_rfs]
  have tbs : u.tbs = s.tbs := by rw [← hu, raise_tbs]
  have flag : ∀ g, u.flag g = if g = .parkState then (s.flag g).occur .none else s.flag g :=
    fun g => by rw [← hu, raise_flag]; rfl
  have counters : u.counters = { s.counters with evu := u.counters.evu } := by
    rw [← hu, raise_counters]
  have keep : u.keepReference = s.keepReference := by
    simp only [State.keepReference, State.line, tbs]
  constructor
  case scs => rw [leaveParked_scs, scs]
  case parkState => rw [leaveParked_flag (by decide), flag, if_pos rfl, if_pos h]
  case flag => exact fun g hp ho => by rw [leaveParked_flag ho, flag, if_neg hp]
  case backlog =>
    intro c
    rw [leaveParked_channel, keep, rfs, tbs]
    cases hk : s.keepReference with
    | true => simp
    | false =>
      rw [if_neg Bool.false_ne_true, departed_backlog]
      simp only [h, true_and]
      rfl
  case shells => rw [leaveParked_counters, counters]
  case detector => rw [leaveParked_counters, counters]

theorem settleOpened_settled (s : State) : SettledOpened s s.settleOpened := by
  unfold State.settleOpened
  dsimp only
  split
  · next h => exact settledOpened_elsewhere (by rw [h]; decide)
  · next h => exact settledOpened_examined (settledOpened_parked h)
  · next hp => exact settledOpened_examined (settledOpened_elsewhere hp)

/-- Settles O29: the row brings the head-end, the head-end opens the shell in the context allocated,
and the mode follows. -/
theorem headEndOpensAShell : Obligations.HeadEndOpensAShell := by
  unfold Obligations.HeadEndOpensAShell
  intro s u row i bank from_row hm ho hp hi below hn hb
  obtain ⟨v, hv, exec_eq⟩ := exec_headEnd from_row
  have same := headEndFrom_same from_row
  have scs : v.scs = s.scs := by rw [hv]; exact same.scs
  have tbs : v.tbs = s.tbs := by rw [hv]; exact same.tbs
  have rfs : v.rfs = s.rfs := by rw [hv]; exact same.rfs
  have flags : ∀ g, v.flag g = s.flag g :=
    flag_congr (by rw [hv]; exact congrArg (·.flags) same.evu)
  have length : v.currentLength = s.tru.lengthCounter / 1000 := by
    rw [hv]; exact congrArg (· / 1000) same.length
  have opens : v.headEnd = (v.openShell i bank).settleOpened :=
    headEnd_opens (by rw [scs]; exact hm)
      (fun j => (congrArg (fun x : Scs => x.contexts[j].any Shell.isOpen) scs).trans (ho j))
      (by rw [tbs]; exact hp) (by simp only [scs]; exact hi) (by simp only [scs]; exact below)
      (by rw [scs]; exact hn) (by simp only [tbs]; exact hb)
  have settled := settleOpened_settled (v.openShell i bank)
  have opened := openShell_flag i bank v
  have shells := openShell_counters i bank v
  have tables : (v.openShell i bank).tbs = s.tbs := by rw [openShell_tbs, tbs]
  have references : (v.openShell i bank).rfs = s.rfs := by rw [openShell_rfs, rfs]
  have contexts := openShell_scs i bank v
  have keep : (v.openShell i bank).keepReference = s.keepReference := by
    simp only [State.keepReference, State.line, tables]
  have on : ∀ c, (v.openShell i bank).enabled c = s.enabled c := enabled_congr (by rw [tables])
  have blocks : v.headEnd.tru = v.tru ∧ v.headEnd.etu = v.etu ∧ v.headEnd.tbs = v.tbs := by
    rw [opens]; simp
  obtain ⟨tru, etu, active⟩ := blocks
  rw [← opens] at settled
  rw [scs, tbs, length] at contexts
  simp only [flags, scs] at opened
  have mode : (v.openShell i bank).scs.mode = s.scs.mode := by rw [contexts]
  refine ⟨{ v.headEnd with cmu := u.cmu },
    newShell bank s.scs.nextSequence s.tbs.generation (s.tru.lengthCounter / 1000), ?_,
    newShell_fresh _ _ _ _, ?_, ?_, ?_, fun g hs hp ho => ?_, fun c => ?_, ?_, ?_, ?_, rfl, ?_,
    ?_, ?_, ?_,
    ?_, ?_⟩
  · rw [exec_eq, reportDrained_elsewhere]
    show v.headEnd.scs.mode ≠ .parking
    rw [settled.scs]
    exact nofun
  · show v.headEnd.scs = _
    rw [settled.scs, contexts]
    rfl
  · refine (settled.flag _ (by decide) (by decide)).trans ?_
    rw [opened, if_pos rfl]
  · refine settled.parkState.trans ?_
    rw [opened, if_neg (c := Machine.Flag.parkState = .shellOpened) (by decide), mode]
  · refine (settled.flag g hp ho).trans ?_
    rw [opened, if_neg hs]
  · refine (settled.backlog c).trans ?_
    rw [mode, keep, on, references]
  · refine (congrArg (·.shellsOpened) settled.shells).trans (shells.1.trans ?_)
    rw [hv, same.counters]
  · refine settled.detector.trans (shells.2.trans ?_)
    rw [hv]
  · exact tru.trans (by rw [hv])
  · exact etu.trans (by rw [hv, same.etu])
  · exact active.trans tbs
  · exact (headEnd_rpb v).trans (by rw [hv, same.rpb])
  · exact (headEnd_ldu v).trans (by rw [hv, same.ldu])
  · exact (headEnd_mli v).trans (by rw [hv, same.mli])
  · exact (headEnd_pins v).trans (by rw [hv, same.pins])

end Sys2Proof.Proofs
end

section
/-! PROOFS. PARK and UNPARK by mode (O52): the mode, the park request, the drained report and the
departure from PARKED (R39, R40, R149, R150). -/

namespace Sys2Proof.Proofs

open Sys2Proof.Machine Sys2Proof.Laws

/-! ### A command without arguments -/

/-- The state in which a command acts: it has left the queue (R180). -/
def acting (rest : List Command) (s : State) : State := { s with cmu.commands := rest }

/-- The state once a command has acted and its reply is queued (R180). -/
def withReply (c : Command) (a : Answer) : State :=
  { a.state with cmu.replies := a.state.cmu.replies ++ [⟨c.tag, c.code, a.status, a.data⟩] }

theorem event_noArguments {s : State} {c : Command} {rest : List Command} {row : Instr}
    (act : State → Answer) (hw : s.Waits c rest) (hr : c.row = row) (ha : c.args = []) :
    s.event (State.takeCommand row (noArguments act)) =
      s.reportDrained (withReply c (act (acting rest s))) := by
  rw [event_live hw.1, takeCommand_waits _ hw hr]
  simp only [noArguments, ha, if_true]
  rfl

/-- An answer that leaves the references, the mode and the tables brings no drained report. -/
theorem reportDrained_withReply {s x : State} {c : Command} {status : Status} {data : List Byte}
    (hm : x.scs.mode = s.scs.mode) (hr : x.rfs = s.rfs) (ht : x.tbs = s.tbs) :
    s.reportDrained (withReply c ⟨x, status, data⟩) = withReply c ⟨x, status, data⟩ :=
  reportDrained_same hm (congrArg (·.channels) hr) (congrArg (·.active.channels) ht)

/-- The reply of PARK and UNPARK: the mode code and the park request (section 9.4). -/
theorem modeReply_eq {s : State} {mode : Mode} {request : Bool} (hm : s.scs.mode = mode)
    (hp : s.scs.parkRequest = request) : s.modeReply =
      ⟨s, .done, [BitVec.ofNat 8 mode.code, if request then 1 else 0]⟩ := by
  unfold State.modeReply
  rw [hm, hp, be_one (by cases mode <;> decide)]
  rfl

/-! ### The drained condition (R39) -/

theorem drained_iff (s : State) : s.drained = true ↔ ∀ i : Fin 8, s.enabled i = true →
    s.rfs.channels[i].backlog = 0 ∧ s.rfs.channels[i].request = .none := by
  simp only [State.drained, List.all_eq_true, mem_allChannels, forall_const, Bool.or_eq_true,
    Bool.not_eq_true', Bool.and_eq_true, decide_eq_true_eq, Option.isNone_iff_eq_none,
    or_iff_not_imp_left, Bool.not_eq_false]
  rfl

/-- The entry into PARKING counts a report when the condition holds already (R39). -/
theorem reportDrained_entry {s x : State} (hs : s.scs.mode ≠ .parking)
    (hx : x.scs.mode = .parking) :
    s.reportDrained x = { x with
      rfs.drainReports := x.rfs.drainReports + if x.drained = true then 1 else 0 } := by
  unfold State.reportDrained State.drainedInParking
  simp only [hs, hx, decide_true, decide_false, Bool.true_and, Bool.false_and, Bool.not_false,
    Bool.and_true]
  split <;> rfl

/-- STANDBY and PARKING allow the same levels, so the entry into PARKING issues nothing (R29). -/
theorem parking_noneOwed {s x : State} (h : s.NoneOwed) (hs : s.scs.mode = .standby)
    (hx : x.scs.mode = .parking) (hr : x.rfs.channels = s.rfs.channels) (ha : x.ali = s.ali)
    (ht : x.tbs = s.tbs) : x.NoneOwed := by
  intro c
  have same : s.mayIssue c = x.mayIssue c := by
    simp only [State.mayIssue, State.ref, State.enabled, State.entry, hs, hx, hr, ha, ht,
      levelAllowed]
    rfl
  rw [← same]
  exact h c

/-! ### PARK (R149) -/

/-- The state in PARKING with the request set and the drain timer loaded. -/
def parking (s : State) : State :=
  { s with
    scs.mode := .parking
    scs.parkRequest := true
    scs.drainTimer := .some (s.lineField (·.parkDrainLimit)) }

theorem park_standby {s : State} (hm : s.scs.mode = .standby) (h : s.NoneOwed) :
    s.park = (parking s).modeReply := by
  have idle : (parking s).examine = parking s :=
    examine_idle (parking_noneOwed h hm rfl rfl rfl rfl)
  rw [State.park, hm]
  exact congrArg State.modeReply idle

theorem park_unconfigured {s : State} (hm : s.scs.mode = .unconfigured) :
    s.park = ⟨s, .state, []⟩ := by
  rw [State.park, hm]
  rfl

theorem park_measuring {s : State} (hm : s.scs.mode = .measuring) :
    s.park = ⟨{ s with scs.parkRequest := true }, .done, [2, 1]⟩ := by
  rw [State.park, hm]
  exact modeReply_eq (s := { s with scs.parkRequest := true }) hm rfl

theorem park_again {s : State} {mode : Mode} (hm : s.scs.mode = mode)
    (again : mode = .parking ∨ mode = .parked) (hp : s.scs.parkRequest = true) :
    s.park = ⟨s, .done, [BitVec.ofNat 8 mode.code, 1]⟩ := by
  rw [State.park, hm]
  rcases again with rfl | rfl <;> exact modeReply_eq hm hp

section
variable {s : State} {c : Command} {rest : List Command} (hw : s.Waits c rest)
include hw

theorem exec_park (hc : c.code = 0x0B) (ha : c.args = []) : exec .park s =
    .next (s.reportDrained (withReply c (State.park (acting rest s)))) := by
  show Host.Outcome.next (s.event _) = _
  rw [event_noArguments _ hw (by simp [Command.row, hc]) ha]

theorem exec_unpark (hc : c.code = 0x0C) (ha : c.args = []) : exec .unpark s =
    .next (s.reportDrained (withReply c (State.unpark (acting rest s)))) := by
  show Host.Outcome.next (s.event _) = _
  rw [event_noArguments _ hw (by simp [Command.row, hc]) ha]

/-- A PARK or UNPARK that leaves the references, the mode and the tables is its answer (R180). -/
theorem exec_park_answers {x : State} {status : Status} {data : List Byte} (hc : c.code = 0x0B)
    (ha : c.args = []) (h : (acting rest s).park = ⟨x, status, data⟩)
    (hm : x.scs.mode = s.scs.mode) (hr : x.rfs = s.rfs) (ht : x.tbs = s.tbs) :
    exec .park s = .next (withReply c ⟨x, status, data⟩) := by
  rw [exec_park hw hc ha, h, reportDrained_withReply hm hr ht]

theorem exec_unpark_answers {x : State} {status : Status} {data : List Byte} (hc : c.code = 0x0C)
    (ha : c.args = []) (h : (acting rest s).unpark = ⟨x, status, data⟩)
    (hm : x.scs.mode = s.scs.mode) (hr : x.rfs = s.rfs) (ht : x.tbs = s.tbs) :
    exec .unpark s = .next (withReply c ⟨x, status, data⟩) := by
  rw [exec_unpark hw hc ha, h, reportDrained_withReply hm hr ht]

theorem exec_park_entry (hc : c.code = 0x0B) (ha : c.args = []) (hm : s.scs.mode = .standby)
    (h : s.NoneOwed) : exec .park s = .next (s.reportDrained
      { parking s with cmu := (s.replied c rest .done [3, 1]).cmu }) := by
  have owed : (acting rest s).NoneOwed := noneOwed_congr (s := s) rfl rfl rfl rfl h
  rw [exec_park hw hc ha, park_standby (s := acting rest s) hm owed, modeReply_eq rfl rfl]
  rfl

end

/-! ### UNPARK (R150) -/

theorem unpark_unconfigured {s : State} (hm : s.scs.mode = .unconfigured) :
    s.unpark = ⟨s, .state, []⟩ := by
  rw [State.unpark, hm]
  rfl

theorem unpark_standing {s : State} (hm : s.scs.mode = .standby)
    (hp : s.scs.parkRequest = false) : s.unpark = ⟨s, .done, [1, 0]⟩ := by
  rw [State.unpark, hm]
  exact modeReply_eq hm hp

theorem unpark_measuring {s : State} (hm : s.scs.mode = .measuring) :
    s.unpark = ⟨{ s with scs.parkRequest := false }, .done, [2, 0]⟩ := by
  rw [State.unpark, hm]
  exact modeReply_eq (s := { s with scs.parkRequest := false }) hm rfl

/-- What UNPARK makes of PARKING or PARKED, before the examination. -/
def unparked (s : State) : State :=
  if s.scs.mode = .parked then
    (({ s with scs.parkRequest := false, scs.mode := .standby } : State).raise
      .parkState .none).leaveParked
  else { s with scs.parkRequest := false, scs.drainTimer := .none, scs.mode := .standby }

theorem unpark_standby {s : State} (hm : s.scs.mode = .parking ∨ s.scs.mode = .parked) :
    s.unpark = (unparked s).examine.modeReply := by
  unfold State.unpark unparked
  rcases hm with hm | hm <;> rw [hm]
  · rw [if_neg (by decide)]; rfl
  · rw [if_pos rfl]

/-- The SCS in STANDBY with the park request clear and no drain timer. -/
def standing (scs : Scs) : Scs :=
  { scs with mode := .standby, parkRequest := false, drainTimer := .none }

/-- What UNPARK leaves of the state it finds in PARKING or PARKED (R40, R150). -/
structure Unparked (s t : State) : Prop where
  scs : t.scs = standing s.scs
  parkState : t.flag .parkState =
    if s.scs.mode = .parked then (s.flag .parkState).occur .none else s.flag .parkState
  flag : ∀ g, g ≠ .parkState → g ≠ .referenceOverdue → t.flag g = s.flag g
  channel : ∀ i : Fin 8,
    let raised := s.scs.mode = .parked ∧ s.keepReference = false ∧ s.enabled i = true
    t.rfs.channels[i].backlog =
      (if raised then max s.rfs.channels[i].backlog 12 else s.rfs.channels[i].backlog) ∧
    t.rfs.channels[i].interval =
      (if raised then (enabledEntry s.tbs.active.channels[i]).map (·.refInterval)
        else s.rfs.channels[i].interval) ∧
    t.rfs.channels[i].refState = s.rfs.channels[i].refState
  etu : t.etu = s.etu
  tru : t.tru = s.tru
  tbs : t.tbs = s.tbs
  rpb : t.rpb = s.rpb
  ldu : t.ldu = s.ldu
  cmu : t.cmu = s.cmu
  mli : t.mli = s.mli
  pins : t.pins = s.pins

theorem unparked_parking {s : State} (hm : s.scs.mode = .parking) : Unparked s (unparked s) := by
  have still : ¬ s.scs.mode = .parked := by rw [hm]; decide
  rw [unparked, if_neg still]
  refine ⟨rfl, ?_, fun _ _ _ => rfl, fun i => ?_, rfl, rfl, rfl, rfl, rfl, rfl, rfl, rfl⟩
  · rw [if_neg still]; rfl
  · simp only [hm, reduceCtorEq, false_and, if_false, and_self]

theorem unparked_parked {s : State} (hm : s.scs.mode = .parked) (hd : s.scs.drainTimer = .none) :
    Unparked s (unparked s) := by
  rw [unparked, if_pos hm]
  generalize hu : ({ s with scs.parkRequest := false, scs.mode := .standby } : State).raise
    .parkState .none = u
  have scs : u.scs = { s.scs with parkRequest := false, mode := .standby } := by
    rw [← hu, raise_scs]
  have rfs : u.rfs = s.rfs := by rw [← hu, raise_rfs]
  have tbs : u.tbs = s.tbs := by rw [← hu, raise_tbs]
  have flag : ∀ g, u.flag g = if g = .parkState then (s.flag g).occur .none else s.flag g :=
    fun g => by rw [← hu, raise_flag]; rfl
  have keep : u.keepReference = s.keepReference := by
    simp only [State.keepReference, State.line, tbs]
  constructor
  case scs => rw [leaveParked_scs, scs, standing, ← hd]
  case parkState => rw [leaveParked_flag (by decide), flag, if_pos rfl, if_pos hm]
  case flag => exact fun g hp ho => by rw [leaveParked_flag ho, flag, if_neg hp]
  case channel =>
    intro i
    rw [leaveParked_channel, keep, rfs, tbs]
    have on : s.enabled i = (enabledEntry s.tbs.active.channels[i]).isSome := rfl
    cases hk : s.keepReference with
    | true => simp
    | false =>
      simp only [Bool.false_eq_true, if_false, hm, true_and, on, departed]
      split <;> exact ⟨rfl, rfl, rfl⟩
  case tbs => rw [leaveParked_tbs, tbs]
  all_goals simp [← hu]

/-- The examination that follows changes nothing of these. -/
theorem unparked_examined {s t : State} (h : Unparked s t) : Unparked s t.examine := by
  have examined := examine_examined t
  have flag : ∀ g, t.examine.flag g = t.flag g := flag_congr (by rw [examine_evu])
  constructor
  case scs => rw [examine_scs, h.scs]
  case parkState => rw [flag, h.parkState]
  case flag => exact fun g hp ho => (flag g).trans (h.flag g hp ho)
  case channel =>
    intro i
    obtain ⟨backlog, refState, interval, -⟩ := examined.issues i
    obtain ⟨hb, hi, hr⟩ := h.channel i
    exact ⟨backlog.trans hb, interval.trans hi, refState.trans hr⟩
  case etu => rw [examine_etu, h.etu]
  case tru => rw [examine_tru, h.tru]
  case tbs => rw [examine_tbs, h.tbs]
  case rpb => rw [examine_rpb, h.rpb]
  case ldu => rw [examine_ldu, h.ldu]
  case cmu => rw [examine_cmu, h.cmu]
  case mli => rw [examine_mli, h.mli]
  case pins => rw [examine_pins, h.pins]

/-- UNPARK from PARKING or PARKED: the departure and its examination, with the reply. -/
theorem exec_unpark_departs {s : State} {c : Command} {rest : List Command} (hw : s.Waits c rest)
    (hc : c.code = 0x0C) (ha : c.args = []) (park : s.ParkAgrees)
    (hm : s.scs.mode = .parking ∨ s.scs.mode = .parked) : ∃ x : State,
      Unparked (acting rest s) x ∧ x.NoneOwed ∧
      exec .unpark s = .next { x with cmu := (s.replied c rest .done [1, 0]).cmu } := by
  obtain ⟨timer, -, -⟩ := park
  have left : Unparked (acting rest s) (unparked (acting rest s)) := by
    rcases hm with hm | hm
    · exact unparked_parking hm
    · refine unparked_parked hm ?_
      rw [← Option.not_isSome_iff_eq_none]
      intro present
      have parking := timer.mp present
      rw [hm] at parking
      cases parking
  have examined := unparked_examined left
  have owed := examine_noneOwed (unparked (acting rest s))
  have departs : exec .unpark s = .next (s.reportDrained
      (withReply c (unparked (acting rest s)).examine.modeReply)) := by
    rw [exec_unpark hw hc ha, unpark_standby (s := acting rest s) hm]
  generalize (unparked (acting rest s)).examine = x at examined owed departs
  refine ⟨x, examined, owed, ?_⟩
  have elsewhere : (withReply c x.modeReply).scs.mode ≠ .parking := by
    show x.scs.mode ≠ .parking
    rw [examined.scs]
    exact nofun
  rw [departs, reportDrained_elsewhere elsewhere,
    modeReply_eq (mode := .standby) (request := false) (by rw [examined.scs]; rfl)
      (by rw [examined.scs]; rfl), withReply]
  dsimp only
  rw [examined.cmu]
  rfl

/-- Settles O52: each command by its mode, PARK's entry into PARKING with the drained report it may
bring, and UNPARK's return to STANDBY with the departure from PARKED. -/
theorem parkAndUnparkActByMode : Obligations.ParkAndUnparkActByMode := by
  unfold Obligations.ParkAndUnparkActByMode
  constructor
  · intro s c rest hw hc ha
    refine ⟨fun hm => ?_, fun hm owed => ?_, fun hm => ?_, fun hm hp => ?_, fun hm hp => ?_⟩
    · exact exec_park_answers hw hc ha (park_unconfigured (s := acting rest s) hm) rfl rfl rfl
    · refine ⟨_, exec_park_entry hw hc ha hm owed, ?_⟩
      rw [reportDrained_entry (by rw [hm]; decide) rfl]
      refine ⟨rfl, rfl, rfl, ?_, rfl, rfl, rfl, rfl, rfl, rfl, rfl⟩
      simp only [drained_iff]
      rfl
    · exact exec_park_answers hw hc ha (park_measuring (s := acting rest s) hm) rfl rfl rfl
    · exact exec_park_answers hw hc ha (park_again (s := acting rest s) hm (.inl rfl) hp)
        rfl rfl rfl
    · exact exec_park_answers hw hc ha (park_again (s := acting rest s) hm (.inr rfl) hp)
        rfl rfl rfl
  · intro s c rest hw hc ha park
    obtain ⟨-, -, clear⟩ := id park
    refine ⟨fun hm => ?_, fun hm => ?_, fun hm => ?_, fun hm => ?_⟩
    · exact exec_unpark_answers hw hc ha (unpark_unconfigured (s := acting rest s) hm) rfl rfl rfl
    · exact exec_unpark_answers hw hc ha
        (unpark_standing (s := acting rest s) hm (clear (.inr hm))) rfl rfl rfl
    · exact exec_unpark_answers hw hc ha (unpark_measuring (s := acting rest s) hm) rfl rfl rfl
    · obtain ⟨x, left, owed, departs⟩ := exec_unpark_departs hw hc ha park hm
      exact ⟨_, departs, left.scs, rfl, left.parkState, left.flag, left.channel,
        noneOwed_congr (s := x) rfl rfl rfl rfl owed, left.etu, left.tru, left.tbs, left.rpb,
        left.ldu, left.mli, left.pins⟩

end Sys2Proof.Proofs
end

section
/-! PROOFS. RESTART (O60): the part set afresh, the requests dropped, the stopped counters reloaded
and the channels examined (R42, R165, R183). -/

namespace Sys2Proof.Proofs

open Sys2Proof.Machine Sys2Proof.Laws

/-! ### The flags and the channels set afresh -/

/-- Every flag is cleared and keeps its mark of the mask (R165). -/
theorem afresh_flag (s : State) (f : Machine.Flag) :
    (afresh s).flag f = ⟨false, 0, .none, (s.flag f).enabled⟩ := by
  have all : ∀ (l : List Machine.Flag) (v : Vector FlagState 18),
      (l.foldl (fun v f => v.set f.index (v[f.index]).restarted) v)[f.index] =
        if f ∈ l then v[f.index].restarted else v[f.index] := by
    intro l
    induction l with
    | nil => intro v; simp
    | cons g l ih =>
      intro v
      rw [List.foldl_cons, ih]
      simp only [Fin.getElem_fin, Vector.getElem_set, flag_index_inj, List.mem_cons]
      by_cases hg : g = f
      · subst hg
        simp [FlagState.restarted]
      · have hg' : f ≠ g := fun h => hg h.symm
        simp only [hg, hg', if_false, false_or]
  refine (all allFlags s.evu.flags).trans (if_pos ?_)
  cases f <;> decide

/-- The part at a RESTART, before the examination. -/
def restarted (s : State) : State :=
  (forChannels State.dropRequest (afresh s)).reloadStopped s.intervalsRun

theorem restart_restarted (s : State) : s.restart = (restarted s).examine := restart_eq s

/-- The requests dropped and the counters reloaded change the channels alone. -/
theorem restarted_rest (s : State) :
    restarted s = { afresh s with rfs.channels := (restarted s).rfs.channels } := by
  have dropped := forChannels_keeps
    (fun t : State => { t with rfs.channels := s.rfs.channels }) State.dropRequest
    (fun _ _ => rfl) (afresh s)
  have reloaded : ∀ t : State, ({ t.reloadStopped s.intervalsRun with
      rfs.channels := s.rfs.channels } : State) = { t with rfs.channels := s.rfs.channels } := by
    intro t
    unfold State.reloadStopped
    split
    · rfl
    · refine forChannels_keeps (fun t : State => { t with rfs.channels := s.rfs.channels }) _
        (fun c t => ?_) t
      split <;> rfl
  have both := (reloaded (forChannels State.dropRequest (afresh s))).trans dropped
  exact congrArg (fun t : State => { t with rfs.channels := (restarted s).rfs.channels }) both

/-- A channel's interval counter is reloaded where it was stopped and the channel is enabled (R42).
-/
theorem reloadStopped_channel (ran : Bool) (s : State) (d : Fin 8) :
    (s.reloadStopped ran).rfs.channels[d] =
      if ran = false ∧ s.enabled d = true then
        { s.rfs.channels[d] with
          interval := (enabledEntry s.tbs.active.channels[d]).map (·.refInterval) }
      else s.rfs.channels[d] := by
  unfold State.reloadStopped
  cases ran with
  | true => simp
  | false =>
    rw [if_neg Bool.false_ne_true]
    simp only [true_and]
    refine forChannels_get (·.tbs) (fun t d => t.rfs.channels[d])
      (fun tbs c r => if (enabledEntry tbs.active.channels[c]).isSome then
        { r with interval := (enabledEntry tbs.active.channels[c]).map (·.refInterval) } else r)
      (fun c s => if s.enabled c then s.reloadInterval c else s) (fun c t => ?_)
      (fun c d t => ?_) s d
    · split <;> rfl
    · have on : t.enabled c = (enabledEntry t.tbs.active.channels[c]).isSome := rfl
      rw [← on]
      by_cases h : t.enabled c = true
      · simp only [if_pos h, reloadInterval_get]
      · simp only [if_neg h]
        by_cases hd : c = d
        · subst hd; rw [if_pos rfl]
        · rw [if_neg hd]

theorem restarted_channel (s : State) (d : Fin 8) : (restarted s).rfs.channels[d] =
    { s.rfs.channels[d] with
      request := .none
      interval := if s.intervalsRun = false ∧ s.enabled d = true then
          (enabledEntry s.tbs.active.channels[d]).map (·.refInterval)
        else s.rfs.channels[d].interval } := by
  have tbs : (forChannels State.dropRequest (afresh s)).tbs = (afresh s).tbs :=
    forChannels_keeps (·.tbs) State.dropRequest dropRequest_tbs _
  have on : (forChannels State.dropRequest (afresh s)).enabled d = s.enabled d :=
    enabled_congr (by rw [tbs]; rfl) d
  rw [restarted, reloadStopped_channel, dropAll_get, on, tbs]
  split <;> rfl

/-! ### The requests issued by an examination -/

/-- A channel served has a QUEUED request, and any other stands, whatever the tag counter. -/
theorem examineList_request {l : List (Fin 8)} (hl : l.Nodup) (s : State) (d : Fin 8) :
    if d ∈ served l s then
      ∃ tag, (examineList l s).rfs.channels[d].request = .some ⟨tag, .queued⟩
    else (examineList l s).rfs.channels[d].request = s.rfs.channels[d].request := by
  induction l generalizing s with
  | nil => rfl
  | cons c l ih =>
    obtain ⟨hc, hl⟩ := List.nodup_cons.mp hl
    by_cases h : s.mayIssue c = true
    · have later : c ∉ served l (s.issue c) := fun hm => hc ((served_sublist l _).subset hm)
      have next := ih hl (s.issue c)
      rw [issue_channels, rfsChannel_get] at next
      rw [(served_issue h l).1, (served_issue h l).2]
      by_cases hd : c = d
      · subst hd
        rw [if_neg later, if_pos rfl] at next
        rw [if_pos List.mem_cons_self]
        exact ⟨_, next⟩
      · have hd' : d ≠ c := fun h => hd h.symm
        simpa only [List.mem_cons, hd', false_or, hd, if_false] using next
    · rw [(served_pass h l).1, (served_pass h l).2]
      exact ih hl s

/-- From counters at 0 and no request outstanding, an examination counts 1 for each channel that it
leaves with a request (R182). -/
theorem examine_counts_fresh {s : State} {d : Fin 8} (hk : s.counters.channels[d] = .zero)
    (hr : s.rfs.channels[d].request = .none) : s.examine.counters.channels[d] =
      ⟨0, 0, 0, 0, if s.examine.rfs.channels[d].request = .none then 0 else 1, 0, 0, 0, 0, 0⟩ := by
  have counted := examineList_counters allChannels_nodup s d
  have request := examineList_request allChannels_nodup s d
  simp only [← examine_eq_list] at counted request
  rw [counted, hk]
  by_cases hd : d ∈ served allChannels s
  · rw [if_pos hd] at request
    obtain ⟨tag, ht⟩ := request
    rw [if_pos hd, ht]
    rfl
  · rw [if_neg hd] at request
    rw [if_neg hd, request, hr]
    rfl

/-- From an empty queue the tag counter goes on by the frames that an examination queues (R30). -/
theorem examine_counts_tags {s : State} (ht : s.rfs.tagCounter < 256) (hq : s.ali.outQueue = []) :
    s.examine.rfs.tagCounter =
      (s.rfs.tagCounter + s.examine.ali.outQueue.length) % 256 := by
  have tagCounter := examineList_tagCounter allChannels s ht
  have ali := examineList_ali allChannels s ht
  rw [← examine_eq_list] at tagCounter ali
  rw [tagCounter, ali]
  simp only [hq, List.nil_append, List.length_mapIdx]

/-! ### The command -/

theorem exec_restart {s : State} {c : Command} {rest : List Command} (hw : s.Waits c rest)
    (hc : c.code = 0x16) (ha : c.args = []) : exec .restart s =
      .next { (acting rest s).restart with
        cmu := ⟨[], [⟨c.tag, c.code, .done, [if s.tbs.activeValid then 1 else 0]⟩]⟩ } := by
  show Host.Outcome.next (s.event _) = _
  rw [event_noArguments _ hw (by simp [Command.row, hc]) ha]
  have command : State.restartCommand (acting rest s) =
      ⟨(acting rest s).restart, .done, be 1 (acting rest s).restart.scs.mode.code⟩ := rfl
  have cmu : (acting rest s).restart.cmu = ⟨[], []⟩ := by
    rw [restart_restarted, examine_cmu, restarted_rest]; rfl
  have mode : (acting rest s).restart.scs.mode =
      if s.tbs.activeValid then .standby else .unconfigured := by
    rw [restart_restarted, examine_scs, restarted_rest]; rfl
  rw [command]
  generalize (acting rest s).restart = x at cmu mode
  have elsewhere : (withReply c ⟨x, .done, be 1 x.scs.mode.code⟩).scs.mode ≠ .parking := by
    show x.scs.mode ≠ .parking
    rw [mode]
    split <;> exact nofun
  rw [reportDrained_elsewhere elsewhere, withReply]
  dsimp only
  rw [cmu, mode]
  cases s.tbs.activeValid <;> rfl

/-- Settles O60: the part set afresh, read block by block through the examination that follows. -/
theorem restartKeepsTheTables : Obligations.RestartKeepsTheTables := by
  unfold Obligations.RestartKeepsTheTables
  intro s c rest hw hc ha mode
  have exec_eq := exec_restart hw hc ha
  rw [restart_restarted] at exec_eq
  have examined := examine_examined (restarted (acting rest s))
  have owed := examine_noneOwed (restarted (acting rest s))
  have fresh := restarted_rest (acting rest s)
  have channel := restarted_channel (acting rest s)
  have counted := fun i => examine_counts_fresh (s := restarted (acting rest s)) (d := i)
    (by rw [fresh]; exact Vector.getElem_replicate i.isLt) (by rw [channel])
  have tags := fun ht => examine_counts_tags (s := restarted (acting rest s)) ht
    (by rw [fresh]; rfl)
  obtain ⟨evu, etu, tru, scs, tbs, -, -, pins, rpb, ldu, -, mli⟩ := examined.blocks
  obtain ⟨l, ali, requests⟩ := examined.queue
  have counters := examined.counters
  have issues := examined.issues
  have drain := examined.drainReports
  generalize (restarted (acting rest s)).examine = x at *
  rw [fresh] at evu etu tru scs tbs pins rpb ldu mli ali counters drain
  have flag : ∀ f, x.flag f = ⟨false, 0, .none, (s.flag f).enabled⟩ := fun f =>
    (flag_congr (s := afresh (acting rest s)) (by rw [evu]) f).trans (afresh_flag _ f)
  have tag : (restarted (acting rest s)).rfs.tagCounter = s.rfs.tagCounter := by rw [fresh]; rfl
  rw [tag] at tags
  have kept : ∀ i : Fin 8, x.rfs.channels[i].backlog = s.rfs.channels[i].backlog ∧
      x.rfs.channels[i].refState = s.rfs.channels[i].refState ∧
      x.rfs.channels[i].interval = (if s.intervalsRun = false ∧ s.enabled i = true then
          (enabledEntry s.tbs.active.channels[i]).map (·.refInterval)
        else s.rfs.channels[i].interval) ∧
      (x.rfs.channels[i].request = .none ∨
        ∃ tag, x.rfs.channels[i].request = .some ⟨tag, .queued⟩) := by
    intro i
    obtain ⟨backlog, refState, interval, request⟩ := issues i
    rw [channel] at backlog refState interval request
    exact ⟨backlog, refState, interval, request.imp_right (·.2)⟩
  refine ⟨_, exec_eq, scs, tbs, tru, pins, rfl, rpb, ldu, mli, congrArg (·.inLock) ali,
    congrArg (·.sending) ali, ?_, tags, drain, flag, congrArg (·.urgent) evu,
    congrArg (·.routine) evu, ?_, fun i => ?_, ?_, ?_, ?_, ?_, ?_, ?_, ?_, ?_,
    noneOwed_congr (s := x) rfl rfl rfl rfl owed⟩
  · rw [ali]; exact requests
  · rw [State.attn, List.any_eq_false]
    intro f _
    show ¬ ((x.flag f).isSet && (x.flag f).enabled) = true
    rw [flag]
    exact Bool.false_ne_true
  · obtain ⟨backlog, refState, interval, request⟩ := kept i
    refine ⟨?_, backlog, refState, interval, request, counted i⟩
    show x.etu[i] = _
    rw [etu]
    exact Vector.getElem_replicate i.isLt
  all_goals rw [counters]; rfl

end Sys2Proof.Proofs
end

section
/-! PROOFS. The velocity of a table (O40): a rounding stays between the integers its quotient lies
between, so an interpolation stays between its end points (R47 to R50). -/

namespace Sys2Proof.Proofs

open Sys2Proof.Machine

/-! ### The rounding of chapter 1 -/

theorem le_roundHalfUpInt {low num : Int} {den : Nat} (hden : 0 < den) (h : low * den ≤ num) :
    low ≤ roundHalfUpInt num den := by
  rw [roundHalfUpInt, Int.le_ediv_iff_mul_le (by omega), mul_left_comm]
  omega

theorem roundHalfUpInt_le {num high : Int} {den : Nat} (hden : 0 < den) (h : num ≤ high * den) :
    roundHalfUpInt num den ≤ high := by
  rw [roundHalfUpInt, ← Int.lt_add_one_iff, Int.ediv_lt_iff_lt_mul (by omega), add_one_mul,
    mul_left_comm]
  omega

/-! ### Interpolation (R49) -/

section
variable {p q : VelocityPoint} {t : Nat}

/-- R49's numerator weighs each end point by the temperature's distance from the other. -/
theorem interpolate_numerator (p q : VelocityPoint) (t : Int) :
    (p.velocity : Int) * ((q.temperature : Int) - p.temperature) +
        ((q.velocity : Int) - p.velocity) * (t - p.temperature) =
      p.velocity * (q.temperature - t) + q.velocity * (t - p.temperature) := by ring

theorem le_interpolate {low : Nat} (hp : p.temperature ≤ t) (hq : t < q.temperature)
    (hlp : low ≤ p.velocity) (hlq : low ≤ q.velocity) : low ≤ interpolate p q t := by
  rw [interpolate, interpolate_numerator]
  refine Nat.cast_le.1 ((le_roundHalfUpInt (by omega) ?_).trans (Int.self_le_toNat _))
  calc (low : Int) * ((q.temperature - p.temperature : Nat) : Int)
      = low * (q.temperature - t) + low * (t - p.temperature) := by
        rw [Nat.cast_sub (by omega)]; ring
    _ ≤ p.velocity * (q.temperature - t) + q.velocity * (t - p.temperature) := by
        gcongr <;> omega

theorem interpolate_le {high : Nat} (hp : p.temperature ≤ t) (hq : t < q.temperature)
    (hph : p.velocity ≤ high) (hqh : q.velocity ≤ high) : interpolate p q t ≤ high := by
  rw [interpolate, interpolate_numerator]
  refine Int.toNat_le.2 (roundHalfUpInt_le (by omega) ?_)
  calc (p.velocity : Int) * (q.temperature - t) + q.velocity * (t - p.temperature)
      ≤ high * (q.temperature - t) + high * (t - p.temperature) := by gcongr <;> omega
    _ = high * ((q.temperature - p.temperature : Nat) : Int) := by
        rw [Nat.cast_sub (by omega)]; ring

end

/-! ### The table (R47, R48, R50) -/

/-- The velocity lies between two velocities of the points. -/
def Spanned (points : List VelocityPoint) (velocity : Nat) : Prop :=
  ∃ p ∈ points, ∃ q ∈ points, p.velocity ≤ velocity ∧ velocity ≤ q.velocity

theorem Spanned.of_mem {points : List VelocityPoint} {p : VelocityPoint} (hp : p ∈ points) :
    Spanned points p.velocity := ⟨p, hp, p, hp, le_rfl, le_rfl⟩

theorem Spanned.cons {points : List VelocityPoint} {velocity : Nat} (p : VelocityPoint)
    (h : Spanned points velocity) : Spanned (p :: points) velocity := by
  obtain ⟨a, ha, b, hb, bounds⟩ := h
  exact ⟨a, .tail p ha, b, .tail p hb, bounds⟩

theorem Spanned.bounds {points : List VelocityPoint} {velocity low high : Nat}
    (h : Spanned points velocity) (range : ∀ p ∈ points, low ≤ p.velocity ∧ p.velocity ≤ high) :
    low ≤ velocity ∧ velocity ≤ high := by
  obtain ⟨a, ha, b, hb, above, below⟩ := h
  exact ⟨(range a ha).1.trans above, below.trans (range b hb).2⟩

/-- An interpolation is spanned by its end points, whichever of them has the lower velocity. -/
theorem interpolate_spanned {points : List VelocityPoint} {p q : VelocityPoint} {t : Nat}
    (hp : p ∈ points) (hq : q ∈ points) (above : p.temperature ≤ t) (below : t < q.temperature) :
    Spanned points (interpolate p q t) := by
  rcases le_total p.velocity q.velocity with rising | falling
  · exact ⟨p, hp, q, hq, le_interpolate above below le_rfl rising,
      interpolate_le above below rising le_rfl⟩
  · exact ⟨q, hq, p, hp, le_interpolate above below falling le_rfl,
      interpolate_le above below le_rfl falling⟩

theorem velocityFrom_spanned {t : Nat} (p : VelocityPoint) (rest : List VelocityPoint)
    (above : p.temperature ≤ t) : Spanned (p :: rest) (velocityFrom p rest t) := by
  induction rest generalizing p with
  | nil => exact .of_mem (.head _)
  | cons q rest ih =>
    rw [velocityFrom]
    split
    next below => exact interpolate_spanned (.head _) (.tail _ (.head _)) above below
    next reached => exact (ih q (not_lt.1 reached)).cons p

theorem velocityAt_cons (p : VelocityPoint) (rest : List VelocityPoint) (t : Nat) :
    VelocityTable.velocityAt ⟨p :: rest⟩ t =
      if t ≤ p.temperature then p.velocity else velocityFrom p rest t := rfl

theorem velocityAt_spanned {table : VelocityTable} (t : Nat) (nonempty : table.points ≠ []) :
    Spanned table.points (table.velocityAt t) := by
  obtain ⟨_ | ⟨p, rest⟩⟩ := table
  · exact absurd rfl nonempty
  · rw [velocityAt_cons]
    split
    · exact .of_mem (.head _)
    next above => exact velocityFrom_spanned p rest (not_le.1 above).le

/-- Settles O40: the velocity is a point's or an interpolation between two points. The walk from
point to point alone places the temperature, so the ascending order is not needed. -/
theorem velocityStaysWithinItsTable : Obligations.VelocityStaysWithinItsTable := by
  unfold Obligations.VelocityStaysWithinItsTable
  intro table t two _
  have spanned := velocityAt_spanned t (table := table) (List.length_pos_iff.1 (by omega))
  exact ⟨spanned, spanned.bounds⟩

end Sys2Proof.Proofs
end

section
/-! PROOFS. The contexts: what one of them reads after a change, the oldest of those with a property
(R72), and what closing and completing a shell make of its context (R79, R84). -/

namespace Sys2Proof.Proofs

open Sys2Proof.Machine Sys2Proof.Laws

/-! ### One context -/

theorem contexts_set_get (v : Vector (Option Shell) 4) (i j : Fin 4) (x : Option Shell) :
    (v.set i x)[j] = if i = j then x else v[j] := by
  simp only [Fin.getElem_fin, Vector.getElem_set, Fin.ext_iff]

theorem holds_iff (s : State) (p : Shell → Bool) (i : Fin 4) :
    s.holds p i = true ↔ ∃ sh, s.scs.contexts[i] = .some sh ∧ p sh = true :=
  Option.any_eq_true _ _

/-- A property of the shell a context holds. -/
theorem holds_of_context {s : State} {i : Fin 4} {sh : Shell} (h : s.scs.contexts[i] = .some sh)
    (p : Shell → Bool) : s.holds p i = p sh := by
  rw [State.holds, h]
  rfl

theorem sequenceAt_of_context {s : State} {i : Fin 4} {sh : Shell}
    (h : s.scs.contexts[i] = .some sh) : s.sequenceAt i = sh.sequence := by
  rw [State.sequenceAt, h]
  rfl

theorem mem_allContexts (i : Fin 4) : i ∈ allContexts := by revert i; decide

/-- Some context is OPEN or CLOSING. -/
theorem gauging_iff (s : State) : s.gauging = true ↔ ∃ i, s.holds Shell.inRing i = true := by
  simp only [State.gauging, List.any_eq_true, mem_allContexts, true_and]

theorem isOpen_iff (sh : Shell) : sh.isOpen = true ↔ ∃ openTime, sh.phase = .opened openTime := by
  unfold Shell.isOpen
  cases sh.phase <;> simp

theorem isClosing_iff (sh : Shell) : sh.isClosing = true ↔
    ∃ tailMark timer completion, sh.phase = .closing tailMark timer completion := by
  unfold Shell.isClosing
  cases sh.phase <;> simp

/-! ### The oldest (R72) -/

theorem lowest_none {s : State} {l : List (Fin 4)} (h : s.lowest l = .none) : l = [] := by
  cases l with
  | nil => rfl
  | cons i l =>
    unfold State.lowest at h
    split at h
    · cases h
    · split at h <;> cases h

theorem lowest_some {s : State} {l : List (Fin 4)} {i : Fin 4} (h : s.lowest l = .some i) :
    i ∈ l ∧ ∀ j ∈ l, s.sequenceAt i ≤ s.sequenceAt j := by
  induction l generalizing i with
  | nil => cases h
  | cons k l ih =>
    unfold State.lowest at h
    split at h
    · next hl =>
      cases h
      simp [lowest_none hl]
    · next m hm =>
      obtain ⟨mem, least⟩ := ih hm
      split at h
      · next lower =>
        cases h
        exact ⟨List.mem_cons_of_mem _ mem, List.forall_mem_cons.mpr ⟨lower.le, least⟩⟩
      · next upper =>
        cases h
        exact ⟨List.mem_cons_self, List.forall_mem_cons.mpr
          ⟨le_rfl, fun j hj => (not_lt.mp upper).trans (least j hj)⟩⟩

theorem oldest_none {s : State} {p : Shell → Bool} (h : s.oldest p = .none) (i : Fin 4) :
    s.holds p i = false := by
  have none := List.filter_eq_nil_iff.mp (lowest_none h) i (mem_allContexts i)
  simpa using none

theorem oldest_some {s : State} {p : Shell → Bool} {i : Fin 4} (h : s.oldest p = .some i) :
    s.holds p i = true ∧ ∀ j, s.holds p j = true → s.sequenceAt i ≤ s.sequenceAt j := by
  obtain ⟨mem, least⟩ := lowest_some h
  exact ⟨(List.mem_filter.mp mem).2,
    fun j hj => least j (List.mem_filter.mpr ⟨mem_allContexts j, hj⟩)⟩

/-- A context below every other that has the property is the oldest with it. -/
theorem oldest_eq {s : State} {p : Shell → Bool} {i : Fin 4} (hi : s.holds p i = true)
    (least : ∀ j, s.holds p j = true → j ≠ i → s.sequenceAt i < s.sequenceAt j) :
    s.oldest p = .some i := by
  cases h : s.oldest p with
  | none => rw [oldest_none h i] at hi; cases hi
  | some k =>
    obtain ⟨hk, lowest⟩ := oldest_some h
    by_contra hne
    have apart : k ≠ i := fun e => hne (by rw [e])
    exact absurd (lowest i hi) (not_le.mpr (least k hk apart))

/-- With one context OPEN at most, an OPEN one is the open context (R77). -/
theorem openContext_eq {s : State} {i : Fin 4} (one : s.OneOpen)
    (hi : s.holds Shell.isOpen i = true) : s.openContext = .some i :=
  oldest_eq hi fun j hj hne => absurd (one j i hj hi) hne

/-! ### Closing and completion (R79, R84) -/

/-- The shell of a CLOSING context as it completes; any other shell stands. -/
def completed (mark : Irregularity → Irregularity) (sh : Shell) : Shell :=
  match sh.phase with
  | .closing tailMark _ _ =>
    { sh.closeRuns with phase := .complete tailMark, irregular := mark sh.irregular }
  | _ => sh

/-- The shell of a context that enters CLOSING in `s`. -/
def enteredClosing (mark : Irregularity → Irregularity) (s : State) (sh : Shell) : Shell :=
  { sh with
    phase := .closing s.currentLength (s.lineField (·.tailTimeout))
      (s.currentLength + s.lineField (·.ringOffset) + s.lineField (·.tailMargin))
    irregular := mark sh.irregular }

theorem completed_closing {sh : Shell} {tailMark timer completion : Nat}
    (h : sh.phase = .closing tailMark timer completion) (mark : Irregularity → Irregularity) :
    completed mark sh = { sh with
      phase := .complete tailMark
      runs := Vector.replicate 8 .none
      irregular := mark sh.irregular } := by
  simp only [completed, h]
  rfl

theorem completed_elsewhere {sh : Shell} (h : sh.isClosing = false)
    (mark : Irregularity → Irregularity) : completed mark sh = sh := by
  unfold completed
  split
  · next hp => simp [Shell.isClosing, hp] at h
  · rfl

/-- A CLOSING context completes: SHELL_COMPLETE, and TAIL_IRREGULAR under a tail flag (R84). -/
theorem complete_closing {s : State} {i : Fin 4} {sh : Shell} {tailMark timer completion : Nat}
    (hi : s.scs.contexts[i] = .some sh) (hp : sh.phase = .closing tailMark timer completion)
    (mark : Irregularity → Irregularity) : s.complete i mark =
      let t := (s.shellAt i (completed mark)).raise .shellComplete (.some sh.sequence)
      if (mark sh.irregular).tail then t.raise .tailIrregular (.some sh.sequence) else t := by
  simp only [State.complete, State.shellAt, hi, hp, completed, Option.map]

/-- A context that is not CLOSING does not complete. -/
theorem complete_elsewhere {s : State} {i : Fin 4} (h : s.holds Shell.isClosing i = false)
    (mark : Irregularity → Irregularity) : s.complete i mark = s := by
  unfold State.complete
  split
  · rfl
  · next hi =>
    split
    · next hp => simp [holds_of_context hi, Shell.isClosing, hp] at h
    · rfl

/-- A change that leaves the shell a context holds leaves the state. -/
theorem shellAt_same {s : State} {i : Fin 4} {f : Shell → Shell}
    (h : s.scs.contexts[i].map f = s.scs.contexts[i]) : s.shellAt i f = s := by
  rw [State.shellAt, h, Fin.getElem_fin, Vector.set_getElem_self]

/-- A completion changes its context, and nothing else of the SCS. -/
theorem complete_scs (i : Fin 4) (mark : Irregularity → Irregularity) (s : State) :
    (s.complete i mark).scs = (s.shellAt i (completed mark)).scs := by
  cases h : s.holds Shell.isClosing i with
  | true =>
    obtain ⟨sh, hi, closing⟩ := (holds_iff s _ i).mp h
    obtain ⟨tailMark, timer, completion, hp⟩ := (isClosing_iff sh).mp closing
    rw [complete_closing hi hp]
    dsimp only
    split <;> simp only [raise_scs]
  | false =>
    rw [complete_elsewhere h, shellAt_same]
    cases hi : s.scs.contexts[i] with
    | none => rfl
    | some sh =>
      rw [holds_of_context hi] at h
      rw [Option.map_some, completed_elsewhere h]

/-- Short of the completion length a context enters CLOSING and stays there (R79). -/
theorem enterClosing_short {s : State}
    (h : 0 < s.lineField (·.ringOffset) + s.lineField (·.tailMargin)) (i : Fin 4)
    (mark : Irregularity → Irregularity) :
    s.enterClosing i mark = s.shellAt i (enteredClosing mark s) := by
  unfold State.enterClosing
  exact if_neg (by omega)

/-- With the tail at the ring already a context that enters CLOSING completes at once (R79). -/
theorem enterClosing_atRing {s : State} (ho : s.lineField (·.ringOffset) = 0)
    (hm : s.lineField (·.tailMargin) = 0) (i : Fin 4) (mark : Irregularity → Irregularity) :
    s.enterClosing i mark = (s.shellAt i (enteredClosing mark s)).complete i id := by
  unfold State.enterClosing
  exact if_pos (by omega)

/-! ### The mode (chapter 9) -/

@[simp] theorem toMode_scs (m : Mode) (s : State) : (s.toMode m).scs = { s.scs with mode := m } := by
  rw [State.toMode, examine_scs]

@[simp] theorem enterParking_scs (s : State) : s.enterParking.scs = { s.scs with
    mode := .parking, drainTimer := .some (s.lineField (·.parkDrainLimit)) } := toMode_scs _ _

@[simp] theorem enterParked_scs (s : State) :
    s.enterParked.scs = { s.scs with mode := .parked, drainTimer := .none } := by
  rw [State.enterParked, raise_scs, toMode_scs]

@[simp] theorem applyActivation_scs (s : State) :
    s.applyActivation.scs = leftUnconfigured s.scs := (applyActivation_applied s).scs

/-- The SCS once the mode is settled with no shell in the ring (R148). -/
theorem settleMode_scs (s : State) : s.settleMode.scs =
    if s.scs.mode = .measuring then
      { s.scs with
        mode := if s.scs.parkRequest then .parking else .standby
        drainTimer := if s.scs.parkRequest then .some (s.lineField (·.parkDrainLimit))
          else s.scs.drainTimer }
    else s.scs := by
  unfold State.settleMode
  split
  · split <;> simp
  · rfl

@[simp] theorem leftUnconfigured_contexts (scs : Scs) :
    (leftUnconfigured scs).contexts = scs.contexts := by unfold leftUnconfigured; split <;> rfl

@[simp] theorem leftUnconfigured_nextSequence (scs : Scs) :
    (leftUnconfigured scs).nextSequence = scs.nextSequence := by
  unfold leftUnconfigured; split <;> rfl

@[simp] theorem settleMode_contexts (s : State) :
    s.settleMode.scs.contexts = s.scs.contexts := by rw [settleMode_scs]; split <;> rfl

@[simp] theorem settleMode_nextSequence (s : State) :
    s.settleMode.scs.nextSequence = s.scs.nextSequence := by rw [settleMode_scs]; split <;> rfl

@[simp] theorem settleMode_evu (s : State) : s.settleMode.evu = s.evu := by
  unfold State.settleMode
  repeat' split
  all_goals simp

theorem settleMode_flag (g : Machine.Flag) (s : State) : s.settleMode.flag g = s.flag g :=
  flag_congr (by rw [settleMode_evu]) g

/-! ### The shell boundary (R84) -/

@[simp] theorem boundary_contexts (s : State) : s.boundary.scs.contexts = s.scs.contexts := by
  unfold State.boundary
  repeat' split
  all_goals simp

@[simp] theorem boundary_nextSequence (s : State) :
    s.boundary.scs.nextSequence = s.scs.nextSequence := by
  unfold State.boundary
  repeat' split
  all_goals simp

/-- A boundary raises TABLES_ACTIVATED at most. -/
theorem boundary_flag {g : Machine.Flag} (hg : g ≠ .tablesActivated) (s : State) :
    s.boundary.flag g = s.flag g := by
  unfold State.boundary
  split
  · rfl
  · rw [settleMode_flag]
    split
    · exact (applyActivation_applied s).flag g hg
    · rfl

/-- With a shell in the ring there is no boundary. -/
theorem boundary_gauging {s : State} (h : s.gauging = true) : s.boundary = s := if_pos h

end Sys2Proof.Proofs
end

section
/-! PROOFS. The events that open no shell: the contexts keep their numbers, and none becomes OPEN
(R71, R72). -/

namespace Sys2Proof.Proofs

open Sys2Proof.Machine Sys2Proof.Laws

/-! ### A shell goes on -/

/-- The shell `b` is the shell `a` further on: it keeps its number and is not opened again (R71, R72).
-/
structure Continues (a b : Shell) : Prop where
  sequence : b.sequence = a.sequence
  stillOpen : b.isOpen = true → a.isOpen = true

theorem Continues.refl (a : Shell) : Continues a a := ⟨rfl, id⟩

theorem Continues.trans {a b c : Shell} (h : Continues a b) (k : Continues b c) : Continues a c :=
  ⟨k.sequence.trans h.sequence, h.stillOpen ∘ k.stillOpen⟩

theorem Continues.of_phase {a b : Shell} (hs : b.sequence = a.sequence) (hp : b.phase = a.phase) :
    Continues a b :=
  ⟨hs, fun h => by rwa [Shell.isOpen, hp] at h⟩

theorem enteredClosing_continues (mark : Irregularity → Irregularity) (s : State) (sh : Shell) :
    Continues sh (enteredClosing mark s sh) := ⟨rfl, nofun⟩

theorem completed_continues (mark : Irregularity → Irregularity) (sh : Shell) :
    Continues sh (completed mark sh) := by
  unfold completed
  split
  · exact ⟨rfl, nofun⟩
  · exact .refl sh

theorem mark_continues (sh : Shell) : Continues sh sh.mark := by
  unfold Shell.mark
  split
  · next h => exact ⟨rfl, fun _ => by simp only [Shell.isOpen, h]⟩
  · exact ⟨rfl, nofun⟩
  · exact .refl sh

/-! ### Shots (R87, R93 to R104) -/

theorem standRun_continues (c : Fin 8) (r : Run) (sh : Shell) : Continues sh (sh.standRun c r) := by
  unfold Shell.standRun Shell.commitRun
  repeat' split
  all_goals exact .of_phase rfl rfl

theorem startRun_continues (shot : Shot) (sh : Shell) : Continues sh (sh.startRun shot) := by
  unfold Shell.startRun
  split
  · exact .refl sh
  · exact standRun_continues _ _ sh

theorem trackRun_continues (shot : Shot) (sh : Shell) : Continues sh (sh.trackRun shot) := by
  unfold Shell.trackRun
  split
  · split
    · exact standRun_continues _ _ sh
    · exact (Continues.of_phase rfl rfl : Continues sh (sh.setRun shot.channel .none)).trans
        (startRun_continues _ _)
  · exact startRun_continues _ sh

theorem accept_continues (shot : Shot) (sh : Shell) : Continues sh (sh.accept shot) := by
  have binned : Continues sh (sh.addToMap shot) := by
    unfold Shell.addToMap
    split <;> exact .of_phase rfl rfl
  have counted : Continues (sh.addToMap shot) ((sh.addToMap shot).addToTotals shot) :=
    .of_phase rfl rfl
  exact binned.trans (counted.trans (trackRun_continues shot _))

theorem countReject_continues (o : ShotOutcome) (sh : Shell) : Continues sh (sh.countReject o) := by
  cases o <;> exact .of_phase rfl rfl

/-! ### The contexts go on -/

/-- From `s` to `t` no shell is opened: every shell a context holds in `t` is the one it held in `s`
further on, and the next-sequence counter stands. -/
structure OpensNone (s t : State) : Prop where
  nextSequence : t.scs.nextSequence = s.scs.nextSequence
  context : ∀ (i : Fin 4) (b : Shell), t.scs.contexts[i] = .some b →
    ∃ a, s.scs.contexts[i] = .some a ∧ Continues a b

theorem OpensNone.trans {s t u : State} (h : OpensNone s t) (k : OpensNone t u) :
    OpensNone s u where
  nextSequence := k.nextSequence.trans h.nextSequence
  context i c hc := by
    obtain ⟨b, hb, later⟩ := k.context i c hc
    obtain ⟨a, ha, earlier⟩ := h.context i b hb
    exact ⟨a, ha, earlier.trans later⟩

theorem OpensNone.of_same {s t : State} (hc : t.scs.contexts = s.scs.contexts)
    (hn : t.scs.nextSequence = s.scs.nextSequence) : OpensNone s t :=
  ⟨hn, fun _ b hb => ⟨b, by rwa [hc] at hb, .refl b⟩⟩

theorem OpensNone.of_scs {s t : State} (h : t.scs = s.scs) : OpensNone s t :=
  .of_same (by rw [h]) (by rw [h])

theorem OpensNone.refl (s : State) : OpensNone s s := .of_scs rfl

/-- What follows a change that leaves the SCS. -/
theorem OpensNone.after {s t u : State} (h : OpensNone t u) (e : t.scs = s.scs) : OpensNone s u :=
  (OpensNone.of_scs e).trans h

theorem OpensNone.holds_open {s t : State} (h : OpensNone s t) {i : Fin 4}
    (hi : t.holds Shell.isOpen i = true) : s.holds Shell.isOpen i = true := by
  obtain ⟨b, hb, isOpen⟩ := (holds_iff t _ i).mp hi
  obtain ⟨a, ha, later⟩ := h.context i b hb
  exact (holds_iff s _ i).mpr ⟨a, ha, later.stillOpen isOpen⟩

theorem shellAt_opensNone {f : Shell → Shell} (h : ∀ sh, Continues sh (f sh)) (i : Fin 4)
    (s : State) : OpensNone s (s.shellAt i f) := by
  refine ⟨rfl, fun j b hb => ?_⟩
  unfold State.shellAt at hb
  rw [contexts_set_get] at hb
  split at hb
  · next e =>
    subst e
    obtain ⟨a, ha, rfl⟩ := Option.map_eq_some_iff.mp hb
    exact ⟨a, ha, h a⟩
  · exact ⟨b, hb, .refl b⟩

theorem freeContext_opensNone (i : Fin 4) (s : State) : OpensNone s (s.freeContext i) := by
  refine ⟨rfl, fun j b hb => ?_⟩
  unfold State.freeContext at hb
  rw [contexts_set_get] at hb
  split at hb
  · cases hb
  · exact ⟨b, hb, .refl b⟩

/-! ### Closing, completion and the boundary (R79 to R84) -/

theorem complete_opensNone (i : Fin 4) (mark : Irregularity → Irregularity) (s : State) :
    OpensNone s (s.complete i mark) :=
  (shellAt_opensNone (completed_continues mark) i s).trans (.of_scs (complete_scs i mark s))

/-- A context that has entered CLOSING completes at most. -/
theorem closing_opensNone (i : Fin 4) (mark : Irregularity → Irregularity) (s : State) :
    OpensNone (s.shellAt i (enteredClosing mark s)) (s.enterClosing i mark) := by
  unfold State.enterClosing
  dsimp only
  split
  · exact complete_opensNone i id _
  · exact .refl _

theorem enterClosing_opensNone (i : Fin 4) (mark : Irregularity → Irregularity) (s : State) :
    OpensNone s (s.enterClosing i mark) :=
  (shellAt_opensNone (enteredClosing_continues mark s) i s).trans (closing_opensNone i mark s)

/-- A context that enters CLOSING is no longer OPEN (R79). -/
theorem enterClosing_shut (i : Fin 4) (mark : Irregularity → Irregularity) (s : State) :
    (s.enterClosing i mark).holds Shell.isOpen i = false := by
  rw [← Bool.not_eq_true]
  intro h
  obtain ⟨b, hb, isOpen⟩ := (holds_iff _ _ i).mp ((closing_opensNone i mark s).holds_open h)
  unfold State.shellAt at hb
  rw [contexts_set_get, if_pos rfl] at hb
  obtain ⟨a, -, rfl⟩ := Option.map_eq_some_iff.mp hb
  cases isOpen

theorem boundary_opensNone (s : State) : OpensNone s s.boundary := .of_same (by simp) (by simp)

theorem tailEnd_opensNone (s : State) : OpensNone s s.tailEnd := by
  unfold State.tailEnd
  split
  · exact (enterClosing_opensNone _ _ s).trans (boundary_opensNone _)
  · exact .of_scs rfl

theorem completeReached_opensNone (n : Nat) (s : State) : OpensNone s (s.completeReached n) := by
  induction n generalizing s with
  | zero => exact .refl s
  | succ n ih =>
    unfold State.completeReached
    split
    · exact .refl s
    · exact (complete_opensNone _ _ s).trans ((boundary_opensNone _).trans (ih _))

theorem dwellOut_opensNone (i : Fin 4) (s : State) : OpensNone s (s.dwellOut i) := by
  unfold State.dwellOut
  split
  · exact (enterClosing_opensNone _ _ s).trans (boundary_opensNone _)
  · exact .refl s

theorem tailOut_opensNone (i : Fin 4) (s : State) : OpensNone s (s.tailOut i) := by
  unfold State.tailOut
  split
  · exact (complete_opensNone _ _ s).trans (boundary_opensNone _)
  · exact .refl s

theorem takePulse_opensNone (s : State) : OpensNone s s.takePulse := by
  unfold State.takePulse State.countEdge State.lengthAdvance
  dsimp only
  repeat' split
  · exact .refl s
  · exact (completeReached_opensNone 4 _).after rfl
  all_goals exact .of_scs rfl

/-! ### The drain, and the commands on the mode and the reports -/

theorem drainOut_opensNone (s : State) : OpensNone s s.drainOut := by
  unfold State.drainOut
  split
  · exact .of_same (by simp) (by simp)
  · exact .refl s

theorem takeDrainedReport_opensNone (s : State) : OpensNone s s.takeDrainedReport := by
  unfold State.takeDrainedReport
  dsimp only
  repeat' split
  all_goals exact .of_same (by simp) (by simp)

theorem park_opensNone (s : State) : OpensNone s s.park.state := by
  unfold State.park
  split
  all_goals exact .of_same (by simp [State.answer]) (by simp [State.answer])

theorem unpark_opensNone (s : State) : OpensNone s s.unpark.state := by
  unfold State.unpark
  split
  all_goals exact .of_same (by simp [State.answer]) (by simp [State.answer])

theorem activate_opensNone (s : State) : OpensNone s s.activate.state := by
  unfold State.activate
  repeat' split
  all_goals exact .of_same (by simp [State.answer]) (by simp [State.answer])

theorem releaseReport_opensNone (args : List Byte) (s : State) :
    OpensNone s (s.releaseReport args).state := by
  unfold State.releaseReport
  repeat' split
  · exact .refl s
  · exact (freeContext_opensNone _ s).trans (.of_scs rfl)
  · exact .refl s

/-! ### Shot records (R1) -/

theorem finish_opensNone (c : Fin 8) (r : ShotRecord) (o : ShotOutcome) (times : EchoTimes)
    (s : State) : OpensNone s (s.finish c r o times) := .of_scs (finish_scs c r o times s)

theorem acceptShot_opensNone (i : Fin 4) (sh : Shell) (e : ChannelEntry) (r : ShotRecord)
    (shot : Shot) (w : WallResult) (t : Nat) (s : State) :
    OpensNone s (s.acceptShot i sh e r shot w t) := by
  have scs : (s.acceptShot i sh e r shot w t).scs = (s.shellAt i (Shell.accept shot)).scs := by
    unfold State.acceptShot State.raiseExcursion
    dsimp only
    repeat' split
    all_goals simp
  exact (shellAt_opensNone (accept_continues shot) i s).trans (.of_scs scs)

theorem gauge_opensNone (c : Fin 8) (e : ChannelEntry) (r : ShotRecord) (i : Fin 4) (position : Nat)
    (times : EchoTimes) (transit t : Nat) (s : State) :
    OpensNone s (s.gauge c e r i position times transit t) := by
  unfold State.gauge
  split
  · exact .refl s
  · dsimp only
    split
    · exact (acceptShot_opensNone _ _ _ _ _ _ _ s).trans (finish_opensNone _ _ _ _ _)
    · exact (shellAt_opensNone (countReject_continues _) i s).trans
        ((finish_opensNone _ _ _ _ _).after rfl)

theorem rejectAssigned_opensNone (c : Fin 8) (r : ShotRecord) (i : Fin 4) (o : ShotOutcome)
    (times : EchoTimes) (s : State) : OpensNone s (s.rejectAssigned c r i o times) :=
  (shellAt_opensNone (countReject_continues o) i s).trans (finish_opensNone _ _ _ _ _)

theorem timeAndGauge_opensNone (c : Fin 8) (e : ChannelEntry) (r : ShotRecord) (i : Fin 4)
    (position : Nat) (s : State) : OpensNone s (s.timeAndGauge c e r i position) := by
  unfold State.timeAndGauge
  split
  · exact rejectAssigned_opensNone _ _ _ _ _ s
  · dsimp only
    split
    · exact rejectAssigned_opensNone _ _ _ _ _ s
    · exact (gauge_opensNone _ _ _ _ _ _ _ _ _).after rfl

theorem measure_opensNone (c : Fin 8) (e : ChannelEntry) (r : ShotRecord) (gap : Nat) (s : State) :
    OpensNone s (s.measure c e r gap) := by
  unfold State.measure
  refine OpensNone.after ?_ (etuChannel_scs c (·.refreshHold r.temperature) s)
  dsimp only
  split
  · exact (finish_opensNone _ _ _ _ _).after rfl
  · exact (shellAt_opensNone (countReject_continues _) _ _).trans (finish_opensNone _ _ _ _ _)
  · refine (shellAt_opensNone (fun sh => ?_) _ _).trans (timeAndGauge_opensNone _ _ _ _ _ _)
    exact .of_phase rfl rfl

theorem reference_scs (c : Fin 8) (e : ChannelEntry) (r : ShotRecord) (s : State) :
    (s.reference c e r).scs = s.scs := by
  unfold State.reference State.rejectReference State.acceptReference
  dsimp only
  repeat' split
  all_goals simp

theorem passRecord_opensNone (c : Fin 8) (e : ChannelEntry) (r : ShotRecord) (s : State) :
    OpensNone s (s.passRecord c e r) := by
  unfold State.passRecord
  dsimp only
  split
  · exact (measure_opensNone _ _ _ _ _).after rfl
  · exact .of_scs (by simp [reference_scs])

theorem takeRecord_opensNone (payload : List Byte) (s : State) :
    OpensNone s (s.takeRecord payload) := by
  have unknown : OpensNone s s.dropUnknownChannel := .of_scs (by simp [State.dropUnknownChannel])
  have badLength : ∀ c, OpensNone s (s.dropBadLength c) := fun c =>
    .of_scs (by simp [State.dropBadLength])
  have forMode : ∀ c r o, OpensNone s (s.dropForMode c r o) := fun c r o =>
    .of_scs (by simp [State.dropForMode])
  unfold State.takeRecord
  dsimp only
  split
  · exact unknown
  · split
    · split
      · exact badLength _
      · exact forMode _ _ _
    · split
      · exact unknown
      · split
        · exact badLength _
        · split
          · exact forMode _ _ _
          · exact passRecord_opensNone _ _ _ s

end Sys2Proof.Proofs
end

section
/-! PROOFS. The rows of the table that leave the Shell Context Store as it stands. -/

namespace Sys2Proof.Proofs

open Sys2Proof.Machine Sys2Proof.Laws

/-- The rows that reach the SCS: the shots, the length, the ends of a shell, its limits, the mode, the
resets, and the commands on these. -/
def reachesScs : Instr → Bool
  | .shotRecord _ | .pulseEdge _ | .debounceExpiry | .dwellLimit _ | .tailTimeout _
  | .parkDrainLimit | .drainedReport | .hardReset | .activate | .forceHead | .forceTail | .park
  | .unpark | .releaseReport | .restart | .resetRelease => true
  | _ => false

/-! ### Events and commands -/

theorem event_scs {f : State → State} (h : ∀ s, (f s).scs = s.scs) (s : State) :
    (s.event f).scs = s.scs := by
  unfold State.event
  split
  · rfl
  · rw [reportDrained_scs, h]

theorem takeCommand_scs {act : Command → State → Answer} (h : ∀ c s, (act c s).state.scs = s.scs)
    (row : Instr) (s : State) : (s.takeCommand row act).scs = s.scs := by
  unfold State.takeCommand
  split
  · rfl
  · split
    · exact h _ _
    · rfl

theorem noArguments_scs {act : State → Answer} (h : ∀ s, (act s).state.scs = s.scs) (c : Command)
    (s : State) : (noArguments act c s).state.scs = s.scs := by
  unfold noArguments
  split
  · exact h s
  · rfl

theorem argumentsOf_scs {act : List Byte → State → Answer}
    (h : ∀ args s, (act args s).state.scs = s.scs) (n : Nat) (c : Command) (s : State) :
    (argumentsOf n act c s).state.scs = s.scs := by
  unfold argumentsOf
  split
  · exact h _ s
  · rfl

/-! ### The links -/

theorem receive_scs {owner : Frame → State → State} (h : ∀ f s, (owner f s).scs = s.scs)
    (link : Link) (kind : Byte) (bytes : List Byte) (s : State) :
    (s.receive link kind owner bytes).scs = s.scs := by
  unfold State.receive
  repeat' split
  · exact discardFrame_scs _ _ s
  · exact h _ _
  · rfl
  · rfl

theorem receiveFailing_scs (link : Link) (bytes : List Byte) (s : State) :
    (s.receiveFailing link bytes).scs = s.scs := by
  unfold State.receiveFailing
  repeat' split
  · exact discardFrame_scs _ _ s
  · rfl
  · rfl

theorem offerRelay_scs (f : Frame) (s : State) : (s.offerRelay f).scs = s.scs := by
  unfold State.offerRelay
  split <;> rfl

theorem offerRelayed_scs (f : Frame) (s : State) : (s.offerRelayed f).scs = s.scs := by
  unfold State.offerRelayed
  split <;> simp

theorem offerCommand_scs (f : Frame) (s : State) : (s.offerCommand f).scs = s.scs := by
  unfold State.offerCommand
  repeat' split
  all_goals simp

theorem loseALock_scs (partly : Bool) (s : State) : (s.loseALock partly).scs = s.scs := by
  unfold State.loseALock State.discardPartial State.changeALock
  dsimp only
  repeat' split
  all_goals simp

theorem gainALock_scs (s : State) : s.gainALock.scs = s.scs := by
  unfold State.gainALock State.changeALock
  split <;> simp

theorem loseMLock_scs (partly : Bool) (s : State) : (s.loseMLock partly).scs = s.scs := by
  unfold State.loseMLock State.abortM State.discardPartial
  repeat' split
  all_goals simp

theorem takeRequest_scs (s : State) : s.takeRequest.scs = s.scs := by
  unfold State.takeRequest
  split <;> simp

theorem takeRelayed_scs (s : State) : s.takeRelayed.scs = s.scs := by
  unfold State.takeRelayed
  repeat' split
  all_goals simp

theorem aReady_scs {f : State → State} (h : ∀ s, (f s).scs = s.scs) (s : State) :
    (if s.aReady then f s else s).scs = s.scs := by
  split
  · exact h s
  · rfl

theorem takeReply_scs (s : State) : s.takeReply.scs = s.scs := by
  unfold State.takeReply
  repeat' split
  all_goals rfl

theorem takeNotice_scs (s : State) : s.takeNotice.scs = s.scs := by
  unfold State.takeNotice
  repeat' split
  all_goals rfl

theorem takeReportFrame_scs (s : State) : s.takeReportFrame.scs = s.scs := by
  unfold State.takeReportFrame
  repeat' split
  all_goals rfl

theorem takeSample_scs (s : State) : s.takeSample.scs = s.scs := by
  unfold State.takeSample
  repeat' split
  all_goals rfl

theorem takeRelay_scs (s : State) : s.takeRelay.scs = s.scs := by
  unfold State.takeRelay
  repeat' split
  all_goals rfl

theorem takeForwarded_scs (s : State) : s.takeForwarded.scs = s.scs := by
  unfold State.takeForwarded
  repeat' split
  all_goals rfl

/-! ### The detector and the references -/

theorem takeDetect_scs (s : State) : s.takeDetect.scs = s.scs := by
  unfold State.takeDetect
  repeat' split
  all_goals simp

theorem intervalOut_scs (c : Fin 8) (s : State) : (s.intervalOut c).scs = s.scs := by
  unfold State.intervalOut
  split <;> simp

theorem requestOut_scs (c : Fin 8) (s : State) : (s.requestOut c).scs = s.scs := by
  unfold State.requestOut
  split <;> simp

/-! ### The commands -/

theorem load_scs {write : List Int → State → State} (h : ∀ v s, (write v s).scs = s.scs)
    (specs : List FieldSpec) (tie : List Int → Nat → Bool) (args : List Byte) (s : State) :
    (s.load specs tie write args).state.scs = s.scs := by
  unfold State.load
  dsimp only
  repeat' split
  · rfl
  · rfl
  · exact h _ s

theorem loadVelocity_scs (c : Command) (s : State) : (s.loadVelocity c).state.scs = s.scs := by
  unfold State.loadVelocity
  dsimp only
  split
  · exact argumentsOf_scs (load_scs (fun _ _ => stageVelocity_scs _ _ _) _ _) _ c s
  · rfl

theorem loadShortForm_scs (c : Command) (s : State) : (s.loadShortForm c).state.scs = s.scs := by
  unfold State.loadShortForm
  dsimp only
  split
  · exact load_scs (fun _ _ => stageChannel_scs _ _ _) _ _ _ s
  · exact load_scs (fun _ _ => stageVelocity_scs _ _ _) _ _ _ s
  · exact load_scs (fun _ _ => stageBank_scs _ _ _) _ _ _ s
  · exact load_scs (fun _ _ => stageLine_scs _ _) _ _ _ s

theorem readTable_scs (args : List Byte) (s : State) : (s.readTable args).state.scs = s.scs := by
  unfold State.readTable
  dsimp only
  split <;> rfl

theorem selectBank_scs (args : List Byte) (s : State) : (s.selectBank args).state.scs = s.scs := by
  unfold State.selectBank
  split <;> rfl

theorem fetchReport_scs (args : List Byte) (s : State) :
    (s.fetchReport args).state.scs = s.scs := by
  unfold State.fetchReport
  dsimp only
  repeat' split
  all_goals rfl

theorem armCapture_scs (args : List Byte) (s : State) : (s.armCapture args).state.scs = s.scs := by
  unfold State.armCapture
  repeat' split
  all_goals rfl

theorem readCapture_scs (args : List Byte) (s : State) :
    (s.readCapture args).state.scs = s.scs := by
  unfold State.readCapture
  repeat' split
  all_goals rfl

/-- What every flag's change leaves, the flags one after another leave. -/
theorem flags_scs {f : State → Flag → State} (h : ∀ s g, (f s g).scs = s.scs) (s : State) :
    (allFlags.foldl f s).scs = s.scs := by
  have all : ∀ (l : List Flag) s, (l.foldl f s).scs = s.scs := by
    intro l
    induction l with
    | nil => exact fun _ => rfl
    | cons g l ih => exact fun s => (ih _).trans (h s g)
  exact all allFlags s

theorem clearEvents_scs (args : List Byte) (s : State) :
    (s.clearEvents args).state.scs = s.scs := by
  unfold State.clearEvents
  dsimp only
  split
  · exact flags_scs (fun s g => clearFlag_scs _ g s) s
  · rfl

theorem setEventMask_scs (args : List Byte) (s : State) :
    (s.setEventMask args).state.scs = s.scs := by
  unfold State.setEventMask
  dsimp only
  split
  · dsimp only
    exact flags_scs (fun s g => maskFlag_scs _ g s) s
  · rfl

theorem readCountersCommand_scs (c : Command) (s : State) :
    (s.readCountersCommand c).state.scs = s.scs := by
  have read : ∀ option, (s.readCounters option).state.scs = s.scs := by
    intro option
    unfold State.readCounters
    dsimp only
    split
    · rfl
    · dsimp only
      split <;> rfl
  unfold State.readCountersCommand
  split
  · exact read _
  · exact read _
  · rfl

/-! ### The rows -/

/-- A row that does not reach the SCS leaves it as it stands. -/
theorem exec_scs {c : Instr} (hc : reachesScs c = false) {s t : State} (h : exec c s = .next t) :
    t.scs = s.scs := by
  have command {act : Command → State → Answer} (row : Instr)
      (ha : ∀ c s, (act c s).state.scs = s.scs) :
      (s.event (State.takeCommand row act)).scs = s.scs :=
    event_scs (takeCommand_scs ha row) s
  cases c <;> cases hc <;> cases h
  case concentratorMessage => exact event_scs (receive_scs offerRelay_scs _ _ _) s
  case relayMessage => exact event_scs (receive_scs offerRelayed_scs _ _ _) s
  case commandFrame => exact event_scs (receive_scs offerCommand_scs _ _ _) s
  case shellDetectChange => exact event_scs takeDetect_scs _
  case referenceIntervalExpiry channel => exact event_scs (intervalOut_scs channel) s
  case referenceTimeout channel => exact event_scs (requestOut_scs channel) s
  case aLinkLockLost partly => exact event_scs (loseALock_scs partly) s
  case aLinkLockGained => exact event_scs gainALock_scs s
  case mLinkLockLost partly => exact event_scs (loseMLock_scs partly) s
  case mLinkLockGained => exact event_scs gainMLock_scs s
  case sendReferenceRequest => exact event_scs (aReady_scs takeRequest_scs) s
  case sendRelayedMessage => exact event_scs (aReady_scs takeRelayed_scs) s
  case sendReply => exact event_scs takeReply_scs s
  case sendNotice => exact event_scs takeNotice_scs s
  case sendReportFrame => exact event_scs takeReportFrame_scs s
  case sendWallSample => exact event_scs takeSample_scs s
  case sendConcentratorMessage => exact event_scs takeRelay_scs s
  case sendForwardedRecord => exact event_scs takeForwarded_scs s
  case identify => exact command _ (noArguments_scs fun _ => rfl)
  case loadChannel =>
    exact command _ (argumentsOf_scs (load_scs (fun _ _ => stageChannel_scs _ _ _) _ _) _)
  case loadVelocity => exact command _ loadVelocity_scs
  case loadBank =>
    exact command _ (argumentsOf_scs (load_scs (fun _ _ => stageBank_scs _ _ _) _ _) _)
  case loadLine =>
    exact command _ (argumentsOf_scs (load_scs (fun _ _ => stageLine_scs _ _) _ _) _)
  case loadShortForm => exact command _ loadShortForm_scs
  case readTable => exact command _ (argumentsOf_scs readTable_scs 3)
  case selectBank => exact command _ (argumentsOf_scs selectBank_scs 1)
  case fetchReport => exact command _ (argumentsOf_scs fetchReport_scs 6)
  case readSnapshot => exact command _ (noArguments_scs fun _ => rfl)
  case armCapture => exact command _ (argumentsOf_scs armCapture_scs 3)
  case readCapture => exact command _ (argumentsOf_scs readCapture_scs 2)
  case readEvents => exact command _ (noArguments_scs fun _ => rfl)
  case clearEvents => exact command _ (argumentsOf_scs clearEvents_scs 3)
  case setEventMask => exact command _ (argumentsOf_scs setEventMask_scs 3)
  case readCounters => exact command _ readCountersCommand_scs
  case unknownCommand => exact command _ fun _ _ => rfl
  case linkFrameDiscarded link frame => exact event_scs (receiveFailing_scs link frame) s
  case frameSendComplete link => exact event_scs (endFrame_scs link) s

end Sys2Proof.Proofs
end

section
/-! PROOFS. The contexts under every step (O6): the head-end opens a shell where none is OPEN, under a
number above every other (R72, R77), and nothing else opens one. -/

namespace Sys2Proof.Proofs

open Sys2Proof.Machine Sys2Proof.Laws

/-- From `s` to `t` the two invariants of the contexts are each kept. -/
structure KeepsDistinct (s t : State) : Prop where
  oneOpen : s.OneOpen → t.OneOpen
  ordered : s.SequencesOrdered → t.SequencesOrdered

/-- Where no shell is opened both invariants are kept. -/
theorem OpensNone.keepsDistinct {s t : State} (h : OpensNone s t) : KeepsDistinct s t where
  oneOpen one i j hi hj := one i j (h.holds_open hi) (h.holds_open hj)
  ordered := by
    rintro ⟨counter, numbers, distinct⟩
    refine ⟨h.nextSequence ▸ counter, fun i b hb => ?_, fun i j b d hb hd same => ?_⟩
    · obtain ⟨a, ha, later⟩ := h.context i b hb
      rw [h.nextSequence, later.sequence]
      exact numbers i a ha
    · obtain ⟨a, ha, later⟩ := h.context i b hb
      obtain ⟨c, hc, later'⟩ := h.context j d hd
      exact distinct i j a c ha hc (later.sequence ▸ later'.sequence ▸ same)

theorem KeepsDistinct.of_scs {s t : State} (h : t.scs = s.scs) : KeepsDistinct s t :=
  (OpensNone.of_scs h).keepsDistinct

theorem KeepsDistinct.refl (s : State) : KeepsDistinct s s := .of_scs rfl

theorem KeepsDistinct.trans {s t u : State} (h : KeepsDistinct s t) (k : KeepsDistinct t u) :
    KeepsDistinct s u := ⟨k.oneOpen ∘ h.oneOpen, k.ordered ∘ h.ordered⟩

/-- What follows a change that leaves the SCS. -/
theorem KeepsDistinct.after {s t u : State} (h : KeepsDistinct t u) (e : t.scs = s.scs) :
    KeepsDistinct s u := (KeepsDistinct.of_scs e).trans h

/-- With every context FREE and the counter at 1 both invariants hold (R90). -/
theorem KeepsDistinct.of_reset {s t : State} (hc : t.scs.contexts = Vector.replicate 4 .none)
    (hn : t.scs.nextSequence = 1) : KeepsDistinct s t := by
  have free : ∀ (i : Fin 4) (sh : Shell), t.scs.contexts[i] ≠ .some sh := fun i sh h => by
    rw [hc, Fin.getElem_fin, Vector.getElem_replicate] at h
    cases h
  refine ⟨fun _ i j hi _ => ?_, fun _ => ⟨?_, ?_, ?_⟩⟩
  · obtain ⟨sh, hsh, -⟩ := (holds_iff t _ i).mp hi
    exact absurd hsh (free i sh)
  · rw [hn]; decide
  · exact fun i sh h => absurd h (free i sh)
  · exact fun i _ a _ h => absurd h (free i a)

/-! ### A shell opened (R72, R77) -/

/-- Where no context is OPEN, the one opened is the only one. -/
theorem openShell_oneOpen {s : State} (none : ∀ j, s.holds Shell.isOpen j = false) (i : Fin 4)
    (bank : ProductBank) : (s.openShell i bank).OneOpen := by
  have only : ∀ j, (s.openShell i bank).holds Shell.isOpen j = true → j = i := by
    intro j hj
    by_contra hne
    obtain ⟨sh, hsh, isOpen⟩ := (holds_iff _ _ j).mp hj
    rw [openShell_scs, contexts_set_get, if_neg (Ne.symm hne)] at hsh
    have shut := none j
    rw [holds_of_context hsh, isOpen] at shut
    cases shut
  exact fun j k hj hk => (only j hj).trans (only k hk).symm

theorem nextSequenceAfter_le {n : Nat} (h : n ≤ max32) : nextSequenceAfter n ≤ max32 := by
  unfold nextSequenceAfter
  split <;> omega

theorem lt_nextSequenceAfter {n : Nat} (h : nextSequenceAfter n ≠ 0) : n < nextSequenceAfter n := by
  unfold nextSequenceAfter at h ⊢
  split at h
  · contradiction
  · next hn => rw [if_neg hn]; exact Nat.lt_succ_self n

/-- The number of a shell opened lies above every other, and below the counter after it. -/
theorem openShell_ordered {s : State} (h : s.SequencesOrdered) (hn : s.scs.nextSequence ≠ 0)
    (i : Fin 4) (bank : ProductBank) : (s.openShell i bank).SequencesOrdered := by
  obtain ⟨counter, numbers, distinct⟩ := h
  have below : ∀ (j : Fin 4) (sh : Shell), s.scs.contexts[j] = .some sh →
      sh.sequence < s.scs.nextSequence := fun j sh hj => (numbers j sh hj).2.2 hn
  unfold State.SequencesOrdered
  rw [openShell_scs]
  simp only [contexts_set_get]
  refine ⟨nextSequenceAfter_le counter, fun j sh hj => ?_, fun j k a b ha hb same => ?_⟩
  · split at hj
    · cases hj
      exact ⟨Nat.pos_of_ne_zero hn, counter, lt_nextSequenceAfter⟩
    · obtain ⟨low, high, -⟩ := numbers j sh hj
      exact ⟨low, high, fun after => (below j sh hj).trans (lt_nextSequenceAfter after)⟩
  · split at ha <;> split at hb
    · next hj hk => exact hj.symm.trans hk
    · cases ha
      exact absurd same (below k b hb).ne'
    · cases hb
      exact absurd same (below j a ha).ne
    · exact distinct j k a b ha hb same

/-! ### The head-end (R74 to R78) -/

theorem cutTails_opensNone (n : Nat) (s : State) : OpensNone s (s.cutTails n) := by
  induction n generalizing s with
  | zero => exact .refl s
  | succ n ih =>
    unfold State.cutTails
    split
    · exact .refl s
    · exact (complete_opensNone _ _ s).trans (ih _)

theorem headStep1_opensNone (s : State) : OpensNone s s.headStep1 := by
  unfold State.headStep1
  split
  · exact enterClosing_opensNone _ _ s
  · exact .refl s

/-- Step 1 of a head-end leaves no context OPEN (R75). -/
theorem headStep1_shut {s : State} (one : s.OneOpen) (j : Fin 4) :
    s.headStep1.holds Shell.isOpen j = false := by
  rw [← Bool.not_eq_true]
  intro hj
  have wasOpen := (headStep1_opensNone s).holds_open hj
  have found := openContext_eq one wasOpen
  rw [State.headStep1, found] at hj
  rw [enterClosing_shut] at hj
  cases hj

theorem headStep2_opensNone (s : State) : OpensNone s s.headStep2 := by
  unfold State.headStep2
  split
  · exact (cutTails_opensNone 4 s).trans (.of_same (by simp) (by simp))
  · exact .refl s

theorem allocate_opensNone (s : State) : OpensNone s s.allocate.2 := by
  unfold State.allocate
  split
  · exact .refl s
  · split
    · exact .refl s
    · next i _ => exact (freeContext_opensNone i s).trans (.of_scs (by simp))

/-- A head-end that opens no shell settles the mode at most. -/
theorem missed_opensNone (s : State) : OpensNone s s.missShell.settleMissed := by
  unfold State.settleMissed
  split
  · exact .of_scs (missShell_scs s)
  · exact .of_same (by simp) (by simp)

theorem settleOpened_opensNone (s : State) : OpensNone s s.settleOpened :=
  .of_same (by rw [(settleOpened_settled s).scs]; rfl) (by rw [(settleOpened_settled s).scs]; rfl)

theorem bindableBank_some {s : State} {bank : ProductBank} (h : s.bindableBank = .some bank) :
    s.scs.nextSequence ≠ 0 := by
  intro exhausted
  rw [State.bindableBank, if_pos exhausted] at h
  cases h

/-- Steps 3 and 4 either open nothing, or open one shell under the number of the counter (R76, R77).
-/
theorem headSteps34_cases (s : State) : OpensNone s s.headSteps34 ∨
    ∃ u i bank, OpensNone s u ∧ u.scs.nextSequence ≠ 0 ∧
      OpensNone (u.openShell i bank) s.headSteps34 := by
  have allocated := allocate_opensNone s
  unfold State.headSteps34
  split
  · next h =>
    rw [h] at allocated
    exact .inl (allocated.trans (missed_opensNone _))
  · next i u h =>
    rw [h] at allocated
    split
    · exact .inl (allocated.trans (missed_opensNone _))
    · next bank hb =>
      exact .inr ⟨u, i, bank, allocated, bindableBank_some hb, settleOpened_opensNone _⟩

theorem headEnd_keepsDistinct (s : State) : KeepsDistinct s s.headEnd := by
  unfold State.headEnd
  split
  · exact .of_scs rfl
  have before := (headStep1_opensNone s).trans (headStep2_opensNone _)
  rcases headSteps34_cases s.headStep1.headStep2 with opened | ⟨u, i, bank, free, number, opened⟩
  · exact (before.trans opened).keepsDistinct
  · refine ⟨fun one => opened.keepsDistinct.oneOpen (openShell_oneOpen (fun j => ?_) i bank),
      fun ordered => opened.keepsDistinct.ordered (openShell_ordered ?_ number i bank)⟩
    · rw [← Bool.not_eq_true]
      intro hj
      have first := ((headStep2_opensNone _).trans free).holds_open hj
      rw [headStep1_shut one j] at first
      cases first
    · exact (before.trans free).keepsDistinct.ordered ordered

theorem debounceOut_keepsDistinct (s : State) : KeepsDistinct s s.debounceOut := by
  unfold State.debounceOut State.takeChange
  split
  · dsimp only
    split
    · exact (headEnd_keepsDistinct _).after rfl
    · exact (tailEnd_opensNone _).keepsDistinct.after rfl
  · exact .refl s

/-! ### Every step -/

theorem event_keepsDistinct {f : State → State} (h : ∀ s, KeepsDistinct s (f s)) (s : State) :
    KeepsDistinct s (s.event f) := by
  unfold State.event
  split
  · exact .refl s
  · exact (h s).trans (.of_scs (reportDrained_scs _ _))

theorem takeCommand_keepsDistinct {act : Command → State → Answer}
    (h : ∀ c s, KeepsDistinct s (act c s).state) (row : Instr) (s : State) :
    KeepsDistinct s (s.takeCommand row act) := by
  unfold State.takeCommand
  split
  · exact .refl s
  · split
    · next c rest _ _ =>
      have acted : KeepsDistinct s (act c { s with cmu.commands := rest }).state :=
        (h c _).after rfl
      exact acted.trans (.of_scs rfl)
    · exact .refl s

theorem noArguments_keepsDistinct {act : State → Answer} (h : ∀ s, KeepsDistinct s (act s).state)
    (c : Command) (s : State) : KeepsDistinct s (noArguments act c s).state := by
  unfold noArguments
  split
  · exact h s
  · exact .refl s

theorem argumentsOf_keepsDistinct {act : List Byte → State → Answer}
    (h : ∀ args s, KeepsDistinct s (act args s).state) (n : Nat) (c : Command) (s : State) :
    KeepsDistinct s (argumentsOf n act c s).state := by
  unfold argumentsOf
  split
  · exact h _ s
  · exact .refl s

theorem receive_opensNone {owner : Frame → State → State} (h : ∀ f s, OpensNone s (owner f s))
    (link : Link) (kind : Byte) (bytes : List Byte) (s : State) :
    OpensNone s (s.receive link kind owner bytes) := by
  unfold State.receive
  repeat' split
  · exact .of_scs (discardFrame_scs _ _ s)
  · exact (h _ _).after rfl
  · exact .refl s
  · exact .refl s

theorem restartCommand_keepsDistinct (s : State) : KeepsDistinct s s.restartCommand.state := by
  have scs : s.restart.scs = (afresh s).scs := by
    rw [restart_restarted, examine_scs, restarted_rest]
  unfold State.restartCommand
  dsimp only
  exact .of_reset (by rw [scs]; rfl) (by rw [scs]; rfl)

/-- Every row that reaches the SCS keeps the two invariants. -/
theorem exec_reaching_keepsDistinct {c : Instr} (hc : reachesScs c = true) {s t : State}
    (h : exec c s = .next t) : KeepsDistinct s t := by
  have event {f : State → State} (hf : ∀ s, OpensNone s (f s)) (s : State) :
      KeepsDistinct s (s.event f) := event_keepsDistinct (fun s => (hf s).keepsDistinct) s
  have command {act : Command → State → Answer} (row : Instr)
      (ha : ∀ c s, KeepsDistinct s (act c s).state) :
      KeepsDistinct s (s.event (State.takeCommand row act)) :=
    event_keepsDistinct (takeCommand_keepsDistinct ha row) s
  have plain {act : State → Answer} (row : Instr) (ha : ∀ s, OpensNone s (act s).state) :
      KeepsDistinct s (s.event (State.takeCommand row (noArguments act))) :=
    command row (noArguments_keepsDistinct fun s => (ha s).keepsDistinct)
  cases c <;> cases hc <;> cases h
  case shotRecord => exact event (receive_opensNone (fun f => takeRecord_opensNone _) _ _ _) s
  case pulseEdge high => exact (event takePulse_opensNone _).after rfl
  case debounceExpiry => exact event_keepsDistinct debounceOut_keepsDistinct s
  case dwellLimit context => exact event (dwellOut_opensNone context) s
  case tailTimeout context => exact event (tailOut_opensNone context) s
  case parkDrainLimit => exact event drainOut_opensNone s
  case drainedReport => exact event takeDrainedReport_opensNone s
  case hardReset => exact .of_reset rfl rfl
  case activate => exact plain _ activate_opensNone
  case forceHead => exact command _ (noArguments_keepsDistinct headEnd_keepsDistinct)
  case forceTail => exact plain _ tailEnd_opensNone
  case park => exact plain _ park_opensNone
  case unpark => exact plain _ unpark_opensNone
  case releaseReport =>
    exact command _ (argumentsOf_keepsDistinct
      (fun args s => (releaseReport_opensNone args s).keepsDistinct) 4)
  case restart => exact command _ (noArguments_keepsDistinct restartCommand_keepsDistinct)
  case resetRelease =>
    split
    · exact .of_reset rfl rfl
    · exact .refl s

theorem exec_keepsDistinct {c : Instr} {s t : State} (h : exec c s = .next t) :
    KeepsDistinct s t := by
  cases hc : reachesScs c with
  | false => exact .of_scs (exec_scs hc h)
  | true => exact exec_reaching_keepsDistinct hc h

theorem millisecond_opensNone (s : State) : OpensNone s s.millisecond := by
  cases h : s.resetHeld with
  | true => rw [State.millisecond, if_pos h]; exact .refl s
  | false =>
    rw [millisecond_eq h]
    refine ⟨rfl, fun i b hb => ?_⟩
    rw [Fin.getElem_fin, Vector.getElem_map] at hb
    obtain ⟨a, ha, rfl⟩ := Option.map_eq_some_iff.mp hb
    exact ⟨a, ha, mark_continues a⟩

theorem step_keepsDistinct {s t : State} (h : step s = .next t) : KeepsDistinct s t := by
  unfold step at h
  split at h
  · exact (exec_keepsDistinct h).after rfl
  · split at h
    · exact exec_keepsDistinct h
    · cases h
      exact (millisecond_opensNone s).keepsDistinct

/-- Settles O6: only a head-end opens a shell, and it closes the one OPEN first and takes a number
above every other. -/
theorem stepKeepsContextsDistinct : Obligations.StepKeepsContextsDistinct := by
  unfold Obligations.StepKeepsContextsDistinct
  exact ⟨fun _ _ h hs => (step_keepsDistinct hs).oneOpen h,
    fun _ _ h hs => (step_keepsDistinct hs).ordered h⟩

end Sys2Proof.Proofs
end

section
/-! PROOFS. The dwell limit (O32) and the tail timeout (O33): the context closed or completed, and the
shell boundary that follows (R79 to R84, R148). -/

namespace Sys2Proof.Proofs

open Sys2Proof.Machine Sys2Proof.Laws

/-! ### The boundary of the last shell (R84, R148) -/

/-- The tables after a boundary: a pending activation is applied (R136). -/
theorem boundary_tbs {s : State} (h : s.gauging = false) : s.boundary.tbs =
    if s.tbs.activationPending then s.tbs.applied else s.tbs := by
  unfold State.boundary
  rw [if_neg (by rw [h]; exact Bool.false_ne_true), settleMode_tbs]
  split
  · exact (applyActivation_applied s).tbs
  · rfl

/-- The SCS after a boundary that leaves MEASURING (R148). -/
theorem boundary_scs {s : State} (h : s.gauging = false) (hm : s.scs.mode = .measuring) :
    s.boundary.scs = { s.scs with
      mode := if s.scs.parkRequest then .parking else .standby
      drainTimer := if s.scs.parkRequest then
          .some ((((if s.tbs.activationPending then s.tbs.staged.line else s.tbs.active.line).map
            (·.parkDrainLimit)).getD 0))
        else s.scs.drainTimer } := by
  have stays : leftUnconfigured s.scs = s.scs := if_neg (by rw [hm]; decide)
  unfold State.boundary
  rw [if_neg (by rw [h]; exact Bool.false_ne_true)]
  split
  · rw [settleMode_scs, applyActivation_scs, stays, if_pos hm, State.lineField, State.line,
      (applyActivation_applied s).tbs, applied_active]
  · exact (settleMode_scs s).trans (if_pos hm)

theorem boundary_tablesActivated {s : State} (h : s.gauging = false) :
    s.boundary.flag .tablesActivated = if s.tbs.activationPending then
      (s.flag .tablesActivated).occur .none else s.flag .tablesActivated := by
  unfold State.boundary
  rw [if_neg (by rw [h]; exact Bool.false_ne_true), settleMode_flag]
  split
  · exact (applyActivation_applied s).raised
  · rfl

/-! ### The dwell limit (R81) -/

theorem shellAt_of_context {s : State} {i : Fin 4} {sh : Shell} (h : s.scs.contexts[i] = .some sh)
    (f : Shell → Shell) : s.shellAt i f = { s with
      scs.contexts := s.scs.contexts.set i (.some (f sh)) } := by
  rw [State.shellAt, h]
  rfl

theorem holds_set {s : State} {i : Fin 4} {sh : Shell} (p : Shell → Bool) (j : Fin 4) :
    ({ s with scs.contexts := s.scs.contexts.set i (.some sh) } : State).holds p j =
      if i = j then p sh else s.holds p j := by
  unfold State.holds
  rw [contexts_set_get]
  split <;> rfl

/-- An OPEN context of a ring without length completes as it closes: what becomes of it (R79). -/
structure ClosedAtOnce (i : Fin 4) (mark : Irregularity → Irregularity) (sh : Shell) (s t : State) :
    Prop where
  contexts : t.scs.contexts = s.scs.contexts.set i (.some { sh with
    phase := .complete s.currentLength
    runs := Vector.replicate 8 .none
    irregular := mark sh.irregular })
  shellComplete : t.flag .shellComplete = (s.flag .shellComplete).occur (.some sh.sequence)
  tailIrregular : (mark sh.irregular).tail = true →
    t.flag .tailIrregular = (s.flag .tailIrregular).occur (.some sh.sequence)

/-- A completion and the boundary after it, in the context and the flags. -/
theorem enterClosing_closedAtOnce {s : State} {i : Fin 4} {sh : Shell}
    (hi : s.scs.contexts[i] = .some sh) (ho : s.lineField (·.ringOffset) = 0)
    (hm : s.lineField (·.tailMargin) = 0) (mark : Irregularity → Irregularity) :
    ClosedAtOnce i mark sh s (s.enterClosing i mark).boundary := by
  have closing : (s.shellAt i (enteredClosing mark s)).scs.contexts[i] =
      .some (enteredClosing mark s sh) := by
    rw [shellAt_of_context hi]
    exact (contexts_set_get _ _ _ _).trans (if_pos rfl)
  have done := complete_closing closing rfl id
  rw [enterClosing_atRing ho hm]
  refine ⟨?_, ?_, fun tail => ?_⟩
  · rw [boundary_contexts, complete_scs, shellAt_of_context closing, shellAt_of_context hi]
    dsimp only
    rw [Vector.set_set, completed_closing rfl]
    rfl
  · rw [boundary_flag (by decide), done]
    dsimp only
    split
    · rw [raise_flag_other (by decide), raise_flag_same]; rfl
    · rw [raise_flag_same]; rfl
  · have tail : (id (enteredClosing mark s sh).irregular).tail = true := tail
    rw [boundary_flag (by decide), done]
    dsimp only
    rw [if_pos tail, raise_flag_same, raise_flag_other (by decide)]
    rfl

/-- The end of the event leaves the contexts and the flags. -/
theorem ClosedAtOnce.then_same {i : Fin 4} {mark : Irregularity → Irregularity} {sh : Shell}
    {s t u : State} (h : ClosedAtOnce i mark sh s t) (hs : u.scs = t.scs) (he : u.evu = t.evu) :
    ClosedAtOnce i mark sh s u := by
  have flag : ∀ g, u.flag g = t.flag g := flag_congr (by rw [he])
  exact ⟨by rw [hs]; exact h.contexts, (flag _).trans h.shellComplete,
    fun tail => (flag _).trans (h.tailIrregular tail)⟩

theorem exec_dwellLimit {s : State} {i : Fin 4} {sh : Shell} (hr : s.resetHeld = false)
    (hi : s.scs.contexts[i] = .some sh) (isOpen : sh.isOpen = true) : exec (.dwellLimit i) s =
      .next (s.reportDrained (s.enterClosing i fun r => { r with dwell := true }).boundary) := by
  show Host.Outcome.next (s.event _) = _
  rw [event_live hr, State.dwellOut, if_pos ((holds_of_context hi _).trans isOpen)]

/-- FORCE TAIL closes the open context and answers DONE (R66). -/
theorem exec_forceTail {s : State} {c : Command} {rest : List Command} {i : Fin 4}
    (hw : s.Waits c rest) (hc : c.code = 0x0A) (ha : c.args = [])
    (hi : (acting rest s).openContext = .some i) : exec .forceTail s = .next (s.reportDrained
      (withReply c ((((acting rest s).enterClosing i id).boundary).answer .done))) := by
  have tail : (acting rest s).tailEnd = ((acting rest s).enterClosing i id).boundary := by
    rw [State.tailEnd, hi]
  show Host.Outcome.next (s.event _) = _
  rw [event_noArguments _ hw (by simp [Command.row, hc]) ha, State.forceTail, tail]

/-- Settles O32: short of the ring the context is CLOSING and the boundary is not reached; at the ring
it completes at once, by DWELL_LIMIT and by FORCE TAIL. -/
theorem dwellLimitClosesTheShell : Obligations.DwellLimitClosesTheShell := by
  unfold Obligations.DwellLimitClosesTheShell
  constructor
  · intro s i sh hr hi isOpen short mark
    have closing := shellAt_of_context hi (enteredClosing (fun r => { r with dwell := true }) s)
    have gauging : (s.shellAt i (enteredClosing (fun r => { r with dwell := true }) s)).gauging =
        true := by
      rw [closing]
      exact (gauging_iff _).mpr ⟨i, (holds_set _ i).trans (if_pos rfl)⟩
    rw [exec_dwellLimit hr hi isOpen, enterClosing_short short, boundary_gauging gauging, closing]
    exact congrArg _ (reportDrained_same rfl rfl rfl)
  · intro s i sh hr one hi isOpen ho hm done
    refine ⟨?_, fun c rest hw hc ha => ?_⟩
    · have closed := enterClosing_closedAtOnce hi ho hm fun r => { r with dwell := true }
      have taken := closed.then_same (reportDrained_scs s _) (reportDrained_evu s _)
      exact ⟨_, exec_dwellLimit hr hi isOpen, taken.contexts, taken.shellComplete,
        taken.tailIrregular (by simp [Irregularity.tail])⟩
    · have one : (acting rest s).OneOpen := one
      have hi : (acting rest s).scs.contexts[i] = .some sh := hi
      have found := openContext_eq one ((holds_of_context hi _).trans isOpen)
      have closed := enterClosing_closedAtOnce hi ho hm id
      have taken := closed.then_same (reportDrained_scs s (withReply c (State.answer _ .done)))
        (reportDrained_evu s _)
      exact ⟨_, exec_forceTail hw hc ha found, taken.contexts, taken.shellComplete⟩

/-! ### The tail timeout (R83) -/

theorem exec_tailTimeout {s : State} {i : Fin 4} {sh : Shell} (hr : s.resetHeld = false)
    (hi : s.scs.contexts[i] = .some sh) (isClosing : sh.isClosing = true) :
    exec (.tailTimeout i) s =
      .next (s.reportDrained (s.complete i fun r => { r with tailStalled := true }).boundary) := by
  show Host.Outcome.next (s.event _) = _
  rw [event_live hr, State.tailOut, if_pos ((holds_of_context hi _).trans isClosing)]

/-- The state once the tail of context `i` has stalled, before the boundary (R84). -/
def tailStalled (i : Fin 4) (done : Shell) (s : State) : State :=
  (({ s with scs.contexts := s.scs.contexts.set i (.some done) } : State).raise .shellComplete
    (.some done.sequence)).raise .tailIrregular (.some done.sequence)

theorem tailStalled_scs (i : Fin 4) (done : Shell) (s : State) : (tailStalled i done s).scs =
    { s.scs with contexts := s.scs.contexts.set i (.some done) } := by
  rw [tailStalled, raise_scs, raise_scs]

theorem tailStalled_tbs (i : Fin 4) (done : Shell) (s : State) :
    (tailStalled i done s).tbs = s.tbs := by
  rw [tailStalled, raise_tbs, raise_tbs]

theorem tailStalled_holds (i : Fin 4) (done : Shell) (s : State) (p : Shell → Bool) (j : Fin 4) :
    (tailStalled i done s).holds p j = if i = j then p done else s.holds p j := by
  rw [← holds_set, State.holds, tailStalled_scs]
  rfl

theorem tailStalled_flag (i : Fin 4) (done : Shell) (s : State) (g : Machine.Flag) :
    (tailStalled i done s).flag g = if g = .shellComplete ∨ g = .tailIrregular then
      (s.flag g).occur (.some done.sequence) else s.flag g := by
  rw [tailStalled, raise_flag, raise_flag]
  by_cases irregular : g = .tailIrregular
  · subst irregular; rfl
  · simp only [irregular, or_false, if_false]; rfl

/-- Settles O33: the context completes, with another shell in the ring no boundary follows, and as the
last it brings the boundary. -/
theorem tailTimeoutCompletesTheShell : Obligations.TailTimeoutCompletesTheShell := by
  unfold Obligations.TailTimeoutCompletesTheShell
  intro s i sh tailMark timer completion hr hi hp hm done contexts
  have step := exec_tailTimeout hr hi ((isClosing_iff sh).mpr ⟨_, _, _, hp⟩)
  have completes : (s.complete i fun r => { r with tailStalled := true }) =
      tailStalled i done s := by
    rw [complete_closing hi hp, shellAt_of_context hi, completed_closing hp]
    exact if_pos (by simp [Irregularity.tail])
  rw [completes] at step
  refine ⟨fun ⟨j, hj, other⟩ => ?_, fun last => ?_⟩
  · have gauging : (tailStalled i done s).gauging = true :=
      (gauging_iff _).mpr ⟨j, by rw [tailStalled_holds, if_neg (Ne.symm hj)]; exact other⟩
    rw [step, boundary_gauging gauging, reportDrained_same]
    · rfl
    · rw [tailStalled_scs]
    · simp [tailStalled]
    · rw [tailStalled_tbs]
  · have idle : (tailStalled i done s).gauging = false := by
      rw [← Bool.not_eq_true, gauging_iff]
      rintro ⟨j, hj⟩
      rw [tailStalled_holds] at hj
      split at hj
      · cases hj
      · next hne => rw [last j (Ne.symm hne)] at hj; cases hj
    have measuring : (tailStalled i done s).scs.mode = .measuring := by rw [tailStalled_scs, hm]
    have flag : ∀ g, (s.reportDrained (tailStalled i done s).boundary).flag g =
        (tailStalled i done s).boundary.flag g := flag_congr (by rw [reportDrained_evu])
    refine ⟨_, step, ?_, ?_, ?_, ?_, ?_, ?_⟩
    · rw [reportDrained_scs, boundary_scs idle measuring, tailStalled_scs, tailStalled_tbs]
    · rw [reportDrained_tbs, boundary_tbs idle, tailStalled_tbs]
      rfl
    · rw [flag, boundary_flag (by decide), tailStalled_flag, if_pos (.inl rfl)]
    · rw [flag, boundary_flag (by decide), tailStalled_flag, if_pos (.inr rfl)]
    · have kept : (tailStalled i done s).flag .tablesActivated = s.flag .tablesActivated :=
        (tailStalled_flag i done s _).trans (if_neg (by decide))
      rw [flag, boundary_tablesActivated idle, tailStalled_tbs, kept]
    · simp [State.SameOutside, tailStalled]

end Sys2Proof.Proofs
end

section
/-! PROOFS. FETCH REPORT and RELEASE REPORT (O53): the context each selects, and what becomes of it and of
the report stream (R88, R110 to R112). -/

namespace Sys2Proof.Proofs

open Sys2Proof.Machine Sys2Proof.Laws

/-! ### The context of a number (R111) -/

/-- A number of four bytes. -/
theorem ofBytes_four (q3 q2 q1 q0 : Byte) : ofBytes [q3, q2, q1, q0] =
    ((q3.toNat * 256 + q2.toNat) * 256 + q1.toNat) * 256 + q0.toNat := by
  simp [ofBytes]

theorem contextOf_none {s : State} {sequence : Nat}
    (h : ∀ (i : Fin 4) (sh : Shell), s.scs.contexts[i] = .some sh → sh.sequence ≠ sequence) :
    s.contextOf sequence = .none := by
  refine List.find?_eq_none.mpr fun i _ hi => ?_
  obtain ⟨sh, hsh, same⟩ := (holds_iff s _ i).mp hi
  exact h i sh hsh (by simpa using same)

/-- With the numbers distinct, the context that holds a number is the one found (R72). -/
theorem contextOf_eq {s : State} (ordered : s.SequencesOrdered) {i : Fin 4} {sh : Shell}
    (hi : s.scs.contexts[i] = .some sh) : s.contextOf sh.sequence = .some i := by
  obtain ⟨-, -, distinct⟩ := ordered
  cases h : s.contextOf sh.sequence with
  | none =>
    have miss := List.find?_eq_none.mp h i (mem_allContexts i)
    simp [holds_of_context hi] at miss
  | some j =>
    obtain ⟨a, ha, same⟩ := (holds_iff s _ j).mp (List.find?_some h)
    rw [distinct j i a sh ha hi (by simpa using same)]

/-! ### FETCH REPORT (R110 to R112) -/

theorem fetchReport_range {args : List Byte} (s : State)
    (h : 1 < argByte args 0 ∨ 2 < argByte args 5) : s.fetchReport args = s.answer .range := if_pos h

section
variable {s : State} {args : List Byte} (hk : argByte args 0 ≤ 1) (hd : argByte args 5 ≤ 2)
include hk hd

theorem fetchReport_busy (h : s.rpb ≠ .none) : s.fetchReport args = s.answer .busy := by
  have inRange : ¬ (1 < argByte args 0 ∨ 2 < argByte args 5) := by omega
  exact (if_neg inRange).trans (if_pos (Option.isSome_iff_ne_none.mpr h))

/-- A fetch that selects nothing is refused with the status of its selection (R111). -/
theorem fetchReport_refused {status : Status} (h : s.rpb = .none)
    (hs : s.select (argByte args 0) (ofBytes ((args.drop 1).take 4)) = .refused status) :
    s.fetchReport args = s.answer status := by
  have inRange : ¬ (1 < argByte args 0 ∨ 2 < argByte args 5) := by omega
  have idle : ¬ s.rpb.isSome = true := by rw [h]; exact Bool.false_ne_true
  unfold State.fetchReport
  dsimp only
  rw [if_neg inRange, if_neg idle, hs]

/-- A fetch that selects a context streams its shell (R112). -/
theorem fetchReport_streams {i : Fin 4} {sh : Shell} (h : s.rpb = .none)
    (hs : s.select (argByte args 0) (ofBytes ((args.drop 1).take 4)) = .selected i)
    (hi : s.scs.contexts[i] = .some sh) :
    s.fetchReport args = s.startStream sh (.ofCode (argByte args 5)) := by
  have inRange : ¬ (1 < argByte args 0 ∨ 2 < argByte args 5) := by omega
  have idle : ¬ s.rpb.isSome = true := by rw [h]; exact Bool.false_ne_true
  unfold State.fetchReport
  dsimp only
  rw [if_neg inRange, if_neg idle, hs]
  dsimp only
  rw [hi]

end

theorem select_oldest_none {s : State} (h : ∀ i, s.holds Shell.isComplete i = false)
    (sequence : Nat) : s.select 0 sequence = .refused .notFound := by
  have none : s.oldest Shell.isComplete = .none := by
    cases found : s.oldest Shell.isComplete with
    | none => rfl
    | some i =>
      have complete := (oldest_some found).1
      rw [h i] at complete
      cases complete
  rw [State.select, if_pos rfl, none]

/-- OLDEST COMPLETE selects the COMPLETE context of the lowest number (R111). -/
theorem select_oldest {s : State} {i : Fin 4} {sh : Shell} (hi : s.scs.contexts[i] = .some sh)
    (isComplete : sh.isComplete = true)
    (least : ∀ (j : Fin 4) (other : Shell), s.scs.contexts[j] = .some other →
      other.isComplete = true → j ≠ i → sh.sequence < other.sequence) (sequence : Nat) :
    s.select 0 sequence = .selected i := by
  have found : s.oldest Shell.isComplete = .some i := by
    refine oldest_eq ((holds_of_context hi _).trans isComplete) fun j hj hne => ?_
    obtain ⟨other, ho, complete⟩ := (holds_iff s _ j).mp hj
    rw [sequenceAt_of_context hi, sequenceAt_of_context ho]
    exact least j other ho complete hne
  rw [State.select, if_pos rfl, found]

theorem select_number_none {s : State} {sequence : Nat}
    (h : ∀ (i : Fin 4) (sh : Shell), s.scs.contexts[i] = .some sh → sh.sequence ≠ sequence) :
    s.select 1 sequence = .refused .notFound := by
  rw [State.select, if_neg Nat.one_ne_zero, contextOf_none h]

/-- BY SEQUENCE selects the context of the number, when it is COMPLETE (R111). -/
theorem select_number {s : State} (ordered : s.SequencesOrdered) {i : Fin 4} {sh : Shell}
    (hi : s.scs.contexts[i] = .some sh) : s.select 1 sh.sequence =
      if sh.isComplete then .selected i else .refused .state := by
  rw [State.select, if_neg Nat.one_ne_zero, contextOf_eq ordered hi]
  dsimp only
  rw [holds_of_context hi]

/-! ### RELEASE REPORT (R88) -/

theorem releaseReport_notFound {s : State} {args : List Byte}
    (h : s.contextOf (ofBytes args) = .none) : s.releaseReport args = s.answer .notFound := by
  rw [State.releaseReport, h]

/-- A shell that is COMPLETE and not being streamed is released; any other is not. -/
theorem releaseReport_found {s : State} {args : List Byte} {i : Fin 4} {sh : Shell}
    (h : s.contextOf (ofBytes args) = .some i) (hi : s.scs.contexts[i] = .some sh) :
    s.releaseReport args =
      if sh.isComplete && !s.streamed sh then
        ((s.freeContext i).tally fun k =>
          { k with scs.reportsReleased := inc32 k.scs.reportsReleased }).answer .done
      else s.answer .state := by
  rw [State.releaseReport, h]
  dsimp only
  rw [holds_of_context hi]

theorem streamed_iff (s : State) (sh : Shell) :
    s.streamed sh = true ↔ ∃ st, s.rpb = .some st ∧ st.sequence = sh.sequence := by
  unfold State.streamed
  cases s.rpb <;> simp

/-! ### The two commands (R180) -/

/-- The event of a command with `n` bytes of arguments whose answer leaves the references, the mode and
the tables. -/
theorem event_argumentsOf {s : State} {c : Command} {rest : List Command} {row : Instr} {n : Nat}
    {act : List Byte → State → Answer} {a : Answer} (hw : s.Waits c rest) (hr : c.row = row)
    (hn : c.args.length = n) (h : act c.args (acting rest s) = a)
    (mode : a.state.scs.mode = s.scs.mode) (references : a.state.rfs = s.rfs)
    (tables : a.state.tbs = s.tbs) :
    s.event (State.takeCommand row (argumentsOf n act)) = withReply c a := by
  have acts : argumentsOf n act c (acting rest s) = a := (if_pos hn).trans h
  rw [event_live hw.1, takeCommand_waits _ hw hr]
  refine (congrArg (fun a => s.reportDrained (withReply c a)) acts).trans ?_
  exact reportDrained_withReply mode references tables

/-- The detail level of a code in range, and the byte that carries it (R110). -/
theorem detail_of_byte {detail : Byte} (h : detail.toNat ≤ 2) :
    Detail.ofCode detail.toNat =
      (if detail = 0 then .summary else if detail = 1 then .zones else .full) ∧
    be 1 (Detail.ofCode detail.toNat).code = [detail] := by
  have codes : detail = 0 ∨ detail = 1 ∨ detail = 2 := by bv_omega
  obtain rfl | rfl | rfl := codes
  all_goals exact ⟨rfl, be_one (by decide)⟩

section
variable {s : State} {c : Command} {rest : List Command} {a : Answer} (hw : s.Waits c rest)
include hw

theorem exec_fetchReport (hc : c.code = 0x0D) (hn : c.args.length = 6)
    (h : (acting rest s).fetchReport c.args = a) (mode : a.state.scs.mode = s.scs.mode)
    (references : a.state.rfs = s.rfs) (tables : a.state.tbs = s.tbs) :
    exec .fetchReport s = .next (withReply c a) := by
  have row : c.row = .fetchReport := by simp [Command.row, hc]
  exact congrArg Host.Outcome.next (event_argumentsOf hw row hn h mode references tables)

theorem exec_releaseReport (hc : c.code = 0x0E) (hn : c.args.length = 4)
    (h : (acting rest s).releaseReport c.args = a) (mode : a.state.scs.mode = s.scs.mode)
    (references : a.state.rfs = s.rfs) (tables : a.state.tbs = s.tbs) :
    exec .releaseReport s = .next (withReply c a) := by
  have row : c.row = .releaseReport := by simp [Command.row, hc]
  exact congrArg Host.Outcome.next (event_argumentsOf hw row hn h mode references tables)

end

section
variable {s : State} {c : Command} {rest : List Command} {args : List Byte}
  (hw : s.Waits c rest) (hc : c.code = 0x0D) (ha : c.args = args) (hn : args.length = 6)
include hw hc ha hn

theorem exec_fetchReport_refused {status : Status}
    (h : (acting rest s).fetchReport args = (acting rest s).answer status) :
    exec .fetchReport s = .next (s.replied c rest status []) := by
  subst ha
  exact exec_fetchReport hw hc hn h rfl rfl rfl

/-- The shell of the context selected is streamed from frame 0, at the level of `detail` (R112). -/
theorem exec_fetchReport_streams {i : Fin 4} {sh : Shell} {detail : Byte}
    (hk : argByte args 0 ≤ 1) (hd : argByte args 5 ≤ 2) (hl : argByte args 5 = detail.toNat)
    (h : s.rpb = .none)
    (hs : (acting rest s).select (argByte args 0) (ofBytes ((args.drop 1).take 4)) = .selected i)
    (hi : s.scs.contexts[i] = .some sh) :
    let level : Detail := if detail = 0 then .summary else if detail = 1 then .zones else .full
    exec .fetchReport s = .next
      { s.replied c rest .done (be 4 sh.sequence ++ [detail] ++ be 2 (sh.frameCount level)) with
        rpb := .some ⟨sh.sequence, level, sh.frameCount level, 0⟩
        counters.rpb.reportsFetched := inc32 s.counters.rpb.reportsFetched } := by
  subst ha
  have streams := fetchReport_streams (s := acting rest s) hk hd h hs hi
  rw [hl] at streams hd
  obtain ⟨code, byte⟩ := detail_of_byte hd
  rw [← code, ← byte]
  exact exec_fetchReport hw hc hn streams rfl rfl rfl

end

/-- Settles O53: each selection and its answer; with the numbers distinct a number selects one context.
-/
theorem reportsAreFetchedAndReleased : Obligations.ReportsAreFetchedAndReleased := by
  unfold Obligations.ReportsAreFetchedAndReleased
  constructor
  · intro s c rest kind q3 q2 q1 q0 detail hw hc ha sequence
    have number : sequence = ofBytes [q3, q2, q1, q0] := (ofBytes_four q3 q2 q1 q0).symm
    have refuses := @exec_fetchReport_refused s c rest _ hw hc ha rfl
    refine ⟨fun h => refuses (fetchReport_range _ h),
      fun (hk : argByte [kind, q3, q2, q1, q0, detail] 0 ≤ 1)
        (hd : argByte [kind, q3, q2, q1, q0, detail] 5 ≤ 2) =>
      ⟨fun h => refuses (fetchReport_busy hk hd h), ?_, ?_⟩⟩
    · rintro idle rfl
      refine ⟨fun none => ?_, fun i sh hi isComplete least => ?_⟩
      · have missing := select_oldest_none (s := acting rest s) none
        exact refuses (fetchReport_refused hk hd idle (missing _))
      · have selects := select_oldest (s := acting rest s) hi isComplete least
        exact exec_fetchReport_streams hw hc ha rfl hk hd rfl idle (selects _) hi
    · rintro idle rfl ordered
      refine ⟨fun none => ?_, fun i sh hi same => ?_⟩
      · have missing := select_number_none (s := acting rest s) (number ▸ none)
        exact refuses (fetchReport_refused hk hd idle missing)
      · have selects := select_number (s := acting rest s) ordered hi
        rw [same, number] at selects
        refine ⟨fun incomplete => ?_, fun isComplete => ?_⟩
        · rw [incomplete] at selects
          exact refuses (fetchReport_refused hk hd idle selects)
        · rw [isComplete] at selects
          exact exec_fetchReport_streams hw hc ha rfl hk hd rfl idle selects hi
  · intro s c rest q3 q2 q1 q0 hw hc ha ordered sequence
    have hn : c.args.length = 4 := by rw [ha]; rfl
    have number : sequence = ofBytes c.args := by rw [ha, ofBytes_four]
    refine ⟨fun none => ?_, fun i sh hi same => ?_⟩
    · have missing := contextOf_none (s := acting rest s) (number ▸ none)
      exact exec_releaseReport hw hc hn (releaseReport_notFound missing) rfl rfl rfl
    · have found := contextOf_eq (s := acting rest s) ordered hi
      rw [same, number] at found
      have answer := releaseReport_found found hi
      have streams := streamed_iff (acting rest s) sh
      rw [same] at streams
      refine ⟨fun kept => ?_, fun isComplete idle => ?_⟩
      · have stays : ¬ (sh.isComplete && !(acting rest s).streamed sh) = true := by
          rcases kept with incomplete | streamed
          · simp [incomplete]
          · simp [streams.mpr streamed]
        exact exec_releaseReport hw hc hn (answer.trans (if_neg stays)) rfl rfl rfl
      · have free : (sh.isComplete && !(acting rest s).streamed sh) = true := by
          have quiet := mt streams.mp idle
          simp [isComplete, quiet]
        exact exec_releaseReport hw hc hn (answer.trans (if_pos free)) rfl rfl rfl

end Sys2Proof.Proofs
end

section
/-! PROOFS. An accepted shot on the wall map (O39): the cell it is added to (R94 to R96), and the account
of the accepted total (R98). -/

namespace Sys2Proof.Proofs

open Sys2Proof.Machine Sys2Proof.Laws

/-! ### Cells (R94 to R97) -/

theorem cell_add_count (w : Nat) (cell : Cell) :
    (cell.add w).count = if cell.count < cellLimit then cell.count + 1 else cell.count := rfl

theorem cell_add_sum (w : Nat) (cell : Cell) :
    (cell.add w).sum = if cell.count < cellLimit then cell.sum + w else cell.sum := rfl

/-- The first shot of a cell (R95). -/
theorem cell_empty_add (w : Nat) : Cell.empty.add w = ⟨1, .some w, .some w, w⟩ := by
  simp [Cell.add, Cell.empty, cellLimit, optMin, optMax]

theorem cell_empty_sound (low high : Nat) : Cell.empty.Sound low high :=
  ⟨Nat.zero_le _, fun _ => rfl, fun h => absurd rfl h⟩

/-- A plausible shot keeps a cell sound: the extremes widen to take it in, and the sum grows with the
count, or both stand at the limit (R95, R96). -/
theorem cell_add_sound {low high w : Nat} {cell : Cell} (above : low ≤ w) (below : w ≤ high)
    (h : cell.Sound low high) : (cell.add w).Sound low high := by
  obtain ⟨limit, empty, filled⟩ := h
  by_cases none : cell.count = 0
  · rw [empty none, cell_empty_add]
    exact ⟨(by decide : 1 ≤ cellLimit), nofun,
      fun _ => ⟨w, w, rfl, rfl, above, below, by simp, by simp⟩⟩
  obtain ⟨a, b, ha, hb, la, bh, lower, upper⟩ := filled none
  have lower' : cell.count * min a w ≤ cell.sum :=
    (Nat.mul_le_mul_left _ (min_le_left a w)).trans lower
  have upper' : cell.sum ≤ cell.count * max b w :=
    upper.trans (Nat.mul_le_mul_left _ (le_max_left b w))
  have extremes : (cell.add w).min = .some (min a w) ∧ (cell.add w).max = .some (max b w) := by
    simp only [Cell.add, ha, hb, optMin, optMax, and_self]
  unfold Cell.Sound
  rw [cell_add_count, cell_add_sum]
  split
  · refine ⟨by omega, fun h => absurd h (Nat.succ_ne_zero _), fun _ => ⟨_, _, extremes.1,
      extremes.2, le_min la above, max_le bh below, ?_, ?_⟩⟩
    · rw [Nat.succ_mul]
      exact Nat.add_le_add lower' (min_le_right a w)
    · rw [Nat.succ_mul]
      exact Nat.add_le_add upper' (le_max_right b w)
  · exact ⟨limit, fun h => absurd h none, fun _ => ⟨_, _, extremes.1, extremes.2,
      le_min la above, max_le bh below, lower', upper'⟩⟩

/-! ### What the steps of an accepted shot change (R107) -/

/-- A shot beyond the map is counted there and binned to no cell (R93). -/
theorem addToMap_beyond {shot : Shot} (h : liesBeyond shot.zone = true) (sh : Shell) :
    sh.addToMap shot = { sh with beyondMap := inc32 sh.beyondMap } := if_pos h

/-- A shot on the map is added to its cell, and spilled when the cell is at its limit (R95, R96). -/
theorem addToMap_within {shot : Shot} (h : liesBeyond shot.zone = false) (sh : Shell) :
    sh.addToMap shot = { sh with
      map := sh.map.modify shot.zone fun row => row.modify shot.sector (Cell.add shot.wCold)
      spill := if (cellAt sh.map shot.zone shot.sector).count < cellLimit then sh.spill
        else inc32 sh.spill } := if_neg (by rw [h]; exact Bool.false_ne_true)

/-- The shell `t` is `s` with its run slots, its excursion list, its overflow count and its irregularity
flags as they are in `t` (R100 to R104). -/
def SameButRuns (s t : Shell) : Prop :=
  t = { s with
    irregular := t.irregular, runs := t.runs, excursions := t.excursions, overflow := t.overflow }

theorem standRun_sameButRuns (c : Fin 8) (r : Run) (sh : Shell) :
    SameButRuns sh (sh.standRun c r) := by
  unfold Shell.standRun Shell.commitRun
  repeat' split
  all_goals rfl

theorem startRun_sameButRuns (shot : Shot) (sh : Shell) : SameButRuns sh (sh.startRun shot) := by
  unfold Shell.startRun
  split
  · rfl
  · exact standRun_sameButRuns _ _ sh

theorem trackRun_sameButRuns (shot : Shot) (sh : Shell) : SameButRuns sh (sh.trackRun shot) := by
  unfold Shell.trackRun
  split
  · split
    · exact standRun_sameButRuns _ _ sh
    · exact startRun_sameButRuns shot (sh.setRun shot.channel .none)
  · exact startRun_sameButRuns shot sh

/-- What an accepted shot makes of a shell outside its runs: the map step, then the totals (R107). -/
theorem accept_sameButRuns (shot : Shot) (sh : Shell) :
    SameButRuns ((sh.addToMap shot).addToTotals shot) (sh.accept shot) :=
  trackRun_sameButRuns shot _

/-! ### The account (R98) -/

/-- A list changed at one place: a sum over it changes by what that place changes. -/
theorem sum_map_modify {α : Type} (g : α → Nat) (f : α → α) {x : α} {l : List α} {i : Nat}
    (h : l[i]? = .some x) :
    ((l.modify i f).map g).sum + g x = (l.map g).sum + g (f x) := by
  induction l generalizing i with
  | nil => cases h
  | cons y l ih =>
    cases i with
    | zero =>
      cases h
      simp only [List.modify_zero_cons, List.map_cons, List.sum_cons]
      omega
    | succ i =>
      have rest := ih (i := i) (by simpa using h)
      simp only [List.modify_succ_cons, List.map_cons, List.sum_cons]
      omega

/-- One cell of a map changed: the map's count changes by the cell's. -/
theorem mapCount_modify {map : List (List Cell)} {zone sector : Nat} {row : List Cell} {cell : Cell}
    (hr : map[zone]? = .some row) (hc : row[sector]? = .some cell) (f : Cell → Cell) :
    mapCount (map.modify zone fun row => row.modify sector f) + cell.count =
      mapCount map + (f cell).count := by
  have rows := sum_map_modify (fun row => (row.map (·.count)).sum)
    (fun row => row.modify sector f) hr
  have cells := sum_map_modify (·.count) f hc
  unfold mapCount
  omega

theorem inc32_below {n : Nat} (h : n < max32) : inc32 n = n + 1 := Nat.min_eq_left h

/-- The map step of an accepted shot adds 1 to the cells, the spill count or the beyond-map count, short
of the counters' limit (R93, R95, R96). -/
theorem addToMap_counts {shot : Shot} {sh : Shell} (shape : sh.map.length = Config.zones)
    (sectors : ∀ row ∈ sh.map, shot.sector < row.length) (spill : sh.spill < max32)
    (beyond : sh.beyondMap < max32) :
    let t := sh.addToMap shot
    mapCount t.map + t.spill + t.beyondMap = mapCount sh.map + sh.spill + sh.beyondMap + 1 := by
  cases outside : liesBeyond shot.zone with
  | true =>
    rw [addToMap_beyond outside]
    dsimp only
    rw [inc32_below beyond]
    omega
  | false =>
    have zone : shot.zone < sh.map.length := by
      rw [shape]
      simpa [liesBeyond] using outside
    have sector := sectors _ (List.getElem_mem zone)
    have hr : sh.map[shot.zone]? = .some sh.map[shot.zone] := List.getElem?_eq_getElem zone
    have hc := List.getElem?_eq_getElem sector
    have counted := mapCount_modify hr hc (Cell.add shot.wCold)
    have here : cellAt sh.map shot.zone shot.sector = sh.map[shot.zone][shot.sector] := by
      rw [cellAt, hr, Option.getD_some, hc, Option.getD_some]
    rw [cell_add_count] at counted
    rw [addToMap_within outside, here]
    dsimp only
    split at counted
    · next room =>
      rw [if_pos room]
      omega
    · next full =>
      rw [if_neg full, inc32_below spill]
      omega

/-- Settles O39: the map step adds 1 to exactly one of the three counts, and the totals step 1 to the
accepted total. -/
theorem acceptedTotalIsAccountedFor : Obligations.AcceptedTotalIsAccountedFor := by
  unfold Obligations.AcceptedTotalIsAccountedFor
  intro shot sh shape sectors below account
  have short : sh.accepted < max32 := below
  have counts := addToMap_counts shape sectors (by omega) (by omega)
  have kept : (sh.addToMap shot).accepted = sh.accepted ∧
      (sh.addToMap shot).wallSum = sh.wallSum := by
    unfold Shell.addToMap
    split <;> exact ⟨rfl, rfl⟩
  obtain ⟨accepted, wallSum⟩ := kept
  have total : inc32 (sh.addToMap shot).accepted = sh.accepted + 1 := by
    rw [accepted, inc32_below short]
  rw [accept_sameButRuns shot sh]
  dsimp only [Shell.addToTotals] at counts ⊢
  exact ⟨by omega, total, by rw [wallSum]⟩

end Sys2Proof.Proofs
end

section
/-! PROOFS. The records of one shell (O8): what holds of its wall map and of its excursion list as it is
opened, and what an accepted shot keeps of both (R91 to R104). -/

namespace Sys2Proof.Proofs

open Sys2Proof.Machine Sys2Proof.Laws

/-! ### What a shell's records keep -/

/-- The shells `a` and `b` have one bank copy, one wall map and one excursion list. -/
structure SameRecords (a b : Shell) : Prop where
  bank : b.bank = a.bank
  map : b.map = a.map
  excursions : b.excursions = a.excursions

theorem SameRecords.refl (sh : Shell) : SameRecords sh sh := ⟨rfl, rfl, rfl⟩

/-- `P` is a property of a shell's records: it reads the bank copy, the wall map and the excursion list
alone, a shell that is opened has it, and a shot that passed the plausibility check keeps it (R53). -/
structure RecordInvariant (P : Shell → Prop) : Prop where
  reads : ∀ {a b : Shell}, SameRecords a b → P a → P b
  opened : ∀ (bank : ProductBank) (sequence generation headMark : Nat),
    P (newShell bank sequence generation headMark)
  accepts : ∀ (shot : Shot) (sh : Shell), sh.bank.plausible shot.wCold = true → P sh →
    P (sh.accept shot)

/-! ### What leaves the records -/

theorem enteredClosing_sameRecords (mark : Irregularity → Irregularity) (s : State) (sh : Shell) :
    SameRecords sh (enteredClosing mark s sh) := ⟨rfl, rfl, rfl⟩

/-- A completion empties the run slots and leaves the list (R106). -/
theorem completed_sameRecords (mark : Irregularity → Irregularity) (sh : Shell) :
    SameRecords sh (completed mark sh) := by
  unfold completed
  split
  · exact ⟨rfl, rfl, rfl⟩
  · exact .refl sh

theorem mark_sameRecords (sh : Shell) : SameRecords sh sh.mark := by
  unfold Shell.mark
  split
  · exact ⟨rfl, rfl, rfl⟩
  · exact ⟨rfl, rfl, rfl⟩
  · exact .refl sh

theorem countReject_sameRecords (o : ShotOutcome) (sh : Shell) :
    SameRecords sh (sh.countReject o) := by
  cases o <;> exact ⟨rfl, rfl, rfl⟩

theorem withMissed_sameRecords (gap : Nat) (sh : Shell) : SameRecords sh (withMissed gap sh) :=
  ⟨rfl, rfl, rfl⟩

/-! ### What an accepted shot leaves -/

theorem addToMap_bank (shot : Shot) (sh : Shell) : (sh.addToMap shot).bank = sh.bank := by
  unfold Shell.addToMap
  split <;> rfl

theorem addToMap_excursions (shot : Shot) (sh : Shell) :
    (sh.addToMap shot).excursions = sh.excursions := by
  unfold Shell.addToMap
  split <;> rfl

theorem accept_bank (shot : Shot) (sh : Shell) : (sh.accept shot).bank = sh.bank := by
  rw [accept_sameButRuns shot sh]
  exact addToMap_bank shot sh

theorem accept_map (shot : Shot) (sh : Shell) :
    (sh.accept shot).map = (sh.addToMap shot).map := by
  rw [accept_sameButRuns shot sh]
  rfl

/-! ### The wall map (R91, R94 to R97) -/

/-- What holds of every item of a list holds of every item once one of them is changed. -/
theorem forall_mem_modify {α : Type} {p : α → Prop} {f : α → α} (hf : ∀ x, p x → p (f x)) {l : List α}
    (h : ∀ x ∈ l, p x) (i : Nat) : ∀ x ∈ l.modify i f, p x := by
  intro x hx
  obtain ⟨j, hj⟩ := List.mem_iff_getElem?.mp hx
  rw [List.getElem?_modify] at hj
  obtain ⟨y, hy, rfl⟩ := Option.map_eq_some_iff.mp hj
  have before := h y (List.mem_of_getElem? hy)
  split
  · exact hf y before
  · exact before

theorem newShell_mapSound (bank : ProductBank) (sequence generation headMark : Nat) :
    (newShell bank sequence generation headMark).MapSound := by
  refine ⟨List.length_replicate, fun row hrow => ?_⟩
  rw [(List.mem_replicate.mp hrow).2]
  refine ⟨List.length_replicate, fun cell hcell => ?_⟩
  rw [(List.mem_replicate.mp hcell).2]
  exact cell_empty_sound _ _

/-- A plausible shot keeps the map sound: one cell of one row takes it. -/
theorem accept_mapSound (shot : Shot) (sh : Shell) (plausible : sh.bank.plausible shot.wCold = true)
    (h : sh.MapSound) : (sh.accept shot).MapSound := by
  obtain ⟨above, below⟩ := (plausible_iff _ _).mp plausible
  obtain ⟨zones, rows⟩ := h
  unfold Shell.MapSound
  rw [accept_map, accept_bank]
  cases outside : liesBeyond shot.zone with
  | true =>
    rw [addToMap_beyond outside]
    exact ⟨zones, rows⟩
  | false =>
    rw [addToMap_within outside]
    refine ⟨(List.length_modify ..).trans zones, forall_mem_modify (fun row sound => ?_) rows _⟩
    obtain ⟨sectors, cells⟩ := sound
    exact ⟨(List.length_modify ..).trans sectors,
      forall_mem_modify (fun _ sound => cell_add_sound above below sound) cells _⟩

/-- The soundness of the map is a property of the records (R97). -/
theorem mapSound_recordInvariant : RecordInvariant Shell.MapSound where
  reads same h := by
    unfold Shell.MapSound
    rw [same.bank, same.map]
    exact h
  opened := newShell_mapSound
  accepts := accept_mapSound

/-! ### The excursion list (R101, R103) -/

/-- The order of an excursion list. -/
def Sorted (l : List Excursion) : Prop := l.Pairwise fun a b => a.startPos ≤ b.startPos

theorem insertExcursion_perm (e : Excursion) (l : List Excursion) :
    (insertExcursion e l).Perm (e :: l) := by
  induction l with
  | nil => exact .refl _
  | cons x l ih =>
    unfold insertExcursion
    split
    · exact (ih.cons x).trans (.swap e x l)
    · exact .refl _

/-- An entry inserted by its start position keeps the list in order (R103). -/
theorem insertExcursion_sorted (e : Excursion) {l : List Excursion} (h : Sorted l) :
    Sorted (insertExcursion e l) := by
  induction l with
  | nil => exact List.pairwise_singleton _ _
  | cons x l ih =>
    obtain ⟨least, rest⟩ := List.pairwise_cons.mp h
    unfold insertExcursion
    split
    · next before =>
      refine List.pairwise_cons.mpr ⟨fun y hy => ?_, ih rest⟩
      rcases List.mem_cons.mp ((insertExcursion_perm e l).mem_iff.mp hy) with rfl | hy
      · exact before
      · exact least y hy
    · next after =>
      have first : e.startPos ≤ x.startPos := (not_le.mp after).le
      exact List.pairwise_cons.mpr
        ⟨List.forall_mem_cons.mpr ⟨first, fun y hy => first.trans (least y hy)⟩, h⟩

/-- A change of the last entry with `p` that leaves what `g` reads of it leaves what `g` reads of the
list. -/
theorem updateLast_map {α β : Type} (g : α → β) {p : α → Bool} {f : α → α}
    (hf : ∀ x, p x = true → g (f x) = g x) (l : List α) : (updateLast p f l).map g = l.map g := by
  induction l with
  | nil => rfl
  | cons x l ih =>
    unfold updateLast
    split
    · next last =>
      obtain ⟨hp, -⟩ := Bool.and_eq_true_iff.mp last
      rw [List.map_cons, List.map_cons, hf x hp]
    · rw [List.map_cons, List.map_cons, ih]

/-- A run's entry keeps its start position as it takes the run's new values (R101). -/
theorem updateEntry_startPos (c : Fin 8) (r : Run) (l : List Excursion) :
    (updateEntry c r l).map (·.startPos) = l.map (·.startPos) := by
  refine updateLast_map _ (fun x hx => ?_) l
  simp only [Bool.and_eq_true, beq_iff_eq] at hx
  exact hx.2.symm

/-- The list's order is that of its start positions. -/
theorem sorted_iff (l : List Excursion) : Sorted l ↔ (l.map (·.startPos)).Pairwise (· ≤ ·) :=
  List.pairwise_map.symm

/-- A list in the same places with the same start positions is ordered as well. -/
theorem listOrdered_of_startPos {a b : Shell}
    (e : b.excursions.map (·.startPos) = a.excursions.map (·.startPos)) (h : a.ListOrdered) :
    b.ListOrdered := by
  obtain ⟨places, sorted⟩ := h
  have length : b.excursions.length = a.excursions.length := by
    simpa only [List.length_map] using congrArg List.length e
  refine ⟨length ▸ places, (sorted_iff _).mpr ?_⟩
  rw [e]
  exact (sorted_iff _).mp sorted

theorem listOrdered_of_excursions {a b : Shell} (e : b.excursions = a.excursions)
    (h : a.ListOrdered) : b.ListOrdered := listOrdered_of_startPos (by rw [e]) h

/-- A run that commits joins a list with a place, and leaves a full one (R103, R104). -/
theorem commitRun_listOrdered (c : Fin 8) (r : Run) {sh : Shell} (h : sh.ListOrdered) :
    (sh.commitRun c r).ListOrdered := by
  unfold Shell.commitRun
  split
  · next place =>
    obtain ⟨-, sorted⟩ := h
    exact ⟨(insertExcursion_perm _ _).length_eq.trans_le place, insertExcursion_sorted _ sorted⟩
  · exact listOrdered_of_excursions rfl h

theorem standRun_listOrdered (c : Fin 8) (r : Run) {sh : Shell} (h : sh.ListOrdered) :
    (sh.standRun c r).ListOrdered := by
  unfold Shell.standRun
  split
  · exact listOrdered_of_startPos (updateEntry_startPos c r sh.excursions) h
  · exact listOrdered_of_excursions rfl h
  · split
    · exact commitRun_listOrdered c r h
    · exact listOrdered_of_excursions rfl h

theorem startRun_listOrdered (shot : Shot) {sh : Shell} (h : sh.ListOrdered) :
    (sh.startRun shot).ListOrdered := by
  unfold Shell.startRun
  split
  · exact h
  · exact standRun_listOrdered _ _ h

theorem trackRun_listOrdered (shot : Shot) {sh : Shell} (h : sh.ListOrdered) :
    (sh.trackRun shot).ListOrdered := by
  unfold Shell.trackRun
  split
  · split
    · exact standRun_listOrdered _ _ h
    · exact startRun_listOrdered shot (listOrdered_of_excursions rfl h)
  · exact startRun_listOrdered shot h

/-- The order of the list is a property of the records (R103). -/
theorem listOrdered_recordInvariant : RecordInvariant Shell.ListOrdered where
  reads same h := listOrdered_of_excursions same.excursions h
  opened _ _ _ _ := ⟨Nat.zero_le _, .nil⟩
  accepts shot sh _ h :=
    trackRun_listOrdered shot (listOrdered_of_excursions (addToMap_excursions shot sh) h)

end Sys2Proof.Proofs
end

section
/-! PROOFS. The records of every shell under every step (O8): a shell's map and list change by an accepted
shot of its context alone, and are empty as it is opened (R87, R91, R107, R108). -/

namespace Sys2Proof.Proofs

open Sys2Proof.Machine Sys2Proof.Laws

/-! ### What a step makes of the shells -/

/-- Every shell a context holds has `P`. -/
def EachShell (P : Shell → Prop) (s : State) : Prop :=
  ∀ (i : Fin 4) (sh : Shell), s.scs.contexts[i] = .some sh → P sh

/-- From `s` to `t` the property `P` of every shell is kept. -/
def KeepsEach (P : Shell → Prop) (s t : State) : Prop := EachShell P s → EachShell P t

section
variable {P : Shell → Prop}

theorem KeepsEach.refl (s : State) : KeepsEach P s s := id

theorem KeepsEach.trans {s t u : State} (h : KeepsEach P s t) (k : KeepsEach P t u) :
    KeepsEach P s u := k ∘ h

theorem KeepsEach.of_contexts {s t : State} (h : t.scs.contexts = s.scs.contexts) :
    KeepsEach P s t := fun each i sh hi => each i sh (h ▸ hi)

theorem KeepsEach.of_scs {s t : State} (h : t.scs = s.scs) : KeepsEach P s t :=
  .of_contexts (by rw [h])

/-- What follows a change that leaves the SCS. -/
theorem KeepsEach.after {s t u : State} (h : KeepsEach P t u) (e : t.scs = s.scs) :
    KeepsEach P s u := (KeepsEach.of_scs e).trans h

/-- With every context FREE there is no shell (R90). -/
theorem KeepsEach.of_reset {s t : State} (h : t.scs.contexts = Vector.replicate 4 .none) :
    KeepsEach P s t := by
  intro _ i sh hi
  rw [h, Fin.getElem_fin, Vector.getElem_replicate] at hi
  cases hi

/-- One context given new contents: a shell it is given has to have `P`. -/
theorem KeepsEach.of_set {s t : State} {i : Fin 4} {x : Option Shell}
    (h : t.scs.contexts = s.scs.contexts.set i x)
    (hx : ∀ sh, x = .some sh → EachShell P s → P sh) : KeepsEach P s t := by
  intro each j sh hj
  rw [h, contexts_set_get] at hj
  split at hj
  · exact hx sh hj each
  · exact each j sh hj

/-- One shell changed by what keeps `P`. -/
theorem shellAt_keepsEach {f : Shell → Shell} (hf : ∀ sh, P sh → P (f sh)) (i : Fin 4) (s : State) :
    KeepsEach P s (s.shellAt i f) := by
  refine .of_set rfl fun b hb each => ?_
  obtain ⟨a, ha, rfl⟩ := Option.map_eq_some_iff.mp hb
  exact hf a (each i a ha)

theorem freeContext_keepsEach (i : Fin 4) (s : State) : KeepsEach P s (s.freeContext i) :=
  .of_set rfl fun _ h => by cases h

end

/-! ### Events and commands, said of the SCS -/

/-- An event that RESET does not hold leaves the SCS its own change gives. -/
theorem event_scs_cases (f : State → State) (s : State) :
    (s.event f).scs = s.scs ∨ (s.event f).scs = (f s).scs := by
  unfold State.event
  split
  · exact .inl rfl
  · exact .inr (reportDrained_scs _ _)

/-- The Command Unit either leaves the SCS, or takes a command that acts with the SCS as it stands. -/
theorem takeCommand_scs_cases (row : Instr) (act : Command → State → Answer) (s : State) :
    (s.takeCommand row act).scs = s.scs ∨
      ∃ c u, u.scs = s.scs ∧ (s.takeCommand row act).scs = (act c u).state.scs := by
  unfold State.takeCommand
  split
  · exact .inl rfl
  · split
    · next c rest _ _ => exact .inr ⟨c, { s with cmu.commands := rest }, rfl, rfl⟩
    · exact .inl rfl

/-- A command of no arguments acts, or answers FORMAT. -/
theorem noArguments_cases (act : State → Answer) (c : Command) (s : State) :
    (noArguments act c s).state = s ∨ (noArguments act c s).state = (act s).state := by
  unfold noArguments
  split
  · exact .inr rfl
  · exact .inl rfl

/-- A command of `n` bytes of arguments acts, or answers FORMAT. -/
theorem argumentsOf_cases (n : Nat) (act : List Byte → State → Answer) (c : Command) (s : State) :
    (argumentsOf n act c s).state = s ∨ (argumentsOf n act c s).state = (act c.args s).state := by
  unfold argumentsOf
  split
  · exact .inr rfl
  · exact .inl rfl

/-- A frame reaches its owner with the SCS as it stands, or leaves the SCS. -/
theorem receive_scs_cases (link : Link) (kind : Byte) (owner : Frame → State → State)
    (bytes : List Byte) (s : State) :
    (s.receive link kind owner bytes).scs = s.scs ∨
      ∃ f u, u.scs = s.scs ∧ s.receive link kind owner bytes = owner f u := by
  unfold State.receive
  repeat' split
  · exact .inl (discardFrame_scs _ _ s)
  · next f _ _ => exact .inr ⟨f, s.tally (countReceived link), rfl, rfl⟩
  · exact .inl rfl
  · exact .inl rfl

/-- A shot record leaves the SCS, or is a measurement record that passed validation (R3, R10). -/
theorem takeRecord_scs_cases (payload : List Byte) (s : State) :
    (s.takeRecord payload).scs = s.scs ∨
      ∃ c e r gap, ∃ u : State, u.scs = s.scs ∧ s.takeRecord payload = u.measure c e r gap := by
  have unknown : s.dropUnknownChannel.scs = s.scs := by simp [State.dropUnknownChannel]
  have badLength : ∀ c, (s.dropBadLength c).scs = s.scs := fun c => by simp [State.dropBadLength]
  have forMode : ∀ c r o, (s.dropForMode c r o).scs = s.scs := fun c r o => by
    simp [State.dropForMode]
  unfold State.takeRecord State.passRecord
  dsimp only
  repeat' split
  · exact .inl unknown
  · exact .inl (badLength _)
  · exact .inl (forMode _ _ _)
  · exact .inl unknown
  · exact .inl (badLength _)
  · exact .inl (forMode _ _ _)
  · refine .inr ⟨_, _, _, _, _, ?_, rfl⟩
    rfl
  · exact .inl (by simp [reference_scs])

section
variable {P : Shell → Prop}

theorem event_keepsEach {f : State → State} (h : ∀ s, KeepsEach P s (f s)) (s : State) :
    KeepsEach P s (s.event f) := by
  rcases event_scs_cases f s with e | e
  · exact .of_scs e
  · exact (h s).trans (.of_scs e)

theorem takeCommand_keepsEach {act : Command → State → Answer}
    (h : ∀ c s, KeepsEach P s (act c s).state) (row : Instr) (s : State) :
    KeepsEach P s (s.takeCommand row act) := by
  rcases takeCommand_scs_cases row act s with e | ⟨c, u, hu, e⟩
  · exact .of_scs e
  · exact ((h c u).after hu).trans (.of_scs e)

theorem noArguments_keepsEach {act : State → Answer} (h : ∀ s, KeepsEach P s (act s).state)
    (c : Command) (s : State) : KeepsEach P s (noArguments act c s).state := by
  rcases noArguments_cases act c s with e | e <;> rw [e]
  · exact .refl s
  · exact h s

theorem argumentsOf_keepsEach {act : List Byte → State → Answer}
    (h : ∀ args s, KeepsEach P s (act args s).state) (n : Nat) (c : Command) (s : State) :
    KeepsEach P s (argumentsOf n act c s).state := by
  rcases argumentsOf_cases n act c s with e | e <;> rw [e]
  · exact .refl s
  · exact h _ s

end

/-! ### What changes no shell, or discards one -/

section
variable {P : Shell → Prop}

theorem boundary_keepsEach (s : State) : KeepsEach P s s.boundary := .of_contexts (by simp)

theorem allocate_keepsEach (s : State) : KeepsEach P s s.allocate.2 := by
  unfold State.allocate
  split
  · exact .refl s
  · split
    · exact .refl s
    · next i _ => exact (freeContext_keepsEach i s).trans (.of_scs (by simp))

theorem settleOpened_keepsEach (s : State) : KeepsEach P s s.settleOpened :=
  .of_contexts (by rw [(settleOpened_settled s).scs]; rfl)

/-- A head-end that opens no shell settles the mode at most. -/
theorem missed_keepsEach (s : State) : KeepsEach P s s.missShell.settleMissed := by
  unfold State.settleMissed
  split
  · exact .of_scs (missShell_scs s)
  · exact .of_contexts (by simp)

theorem drainOut_keepsEach (s : State) : KeepsEach P s s.drainOut := by
  unfold State.drainOut
  split
  · exact .of_contexts (by simp)
  · exact .refl s

theorem takeDrainedReport_keepsEach (s : State) : KeepsEach P s s.takeDrainedReport := by
  unfold State.takeDrainedReport
  dsimp only
  repeat' split
  all_goals exact .of_contexts (by simp)

theorem park_keepsEach (s : State) : KeepsEach P s s.park.state := by
  unfold State.park
  split
  all_goals exact .of_contexts (by simp [State.answer])

theorem unpark_keepsEach (s : State) : KeepsEach P s s.unpark.state := by
  unfold State.unpark
  split
  all_goals exact .of_contexts (by simp [State.answer])

theorem activate_keepsEach (s : State) : KeepsEach P s s.activate.state := by
  unfold State.activate
  repeat' split
  all_goals exact .of_contexts (by simp [State.answer])

theorem releaseReport_keepsEach (args : List Byte) (s : State) :
    KeepsEach P s (s.releaseReport args).state := by
  unfold State.releaseReport
  repeat' split
  · exact .refl s
  · exact (freeContext_keepsEach _ s).trans (.of_scs rfl)
  · exact .refl s

/-- RESTART discards every shell (R108, R183). -/
theorem restartCommand_keepsEach (s : State) : KeepsEach P s s.restartCommand.state := by
  have scs : s.restart.scs = (afresh s).scs := by
    rw [restart_restarted, examine_scs, restarted_rest]
  unfold State.restartCommand
  dsimp only
  exact .of_reset (by rw [scs]; rfl)

end

/-! ### What changes a shell -/

section
variable {P : Shell → Prop} (inv : RecordInvariant P)
include inv

/-- A shell changed outside its records keeps what holds of them. -/
theorem shellAt_keepsRecords {f : Shell → Shell} (same : ∀ sh, SameRecords sh (f sh)) (i : Fin 4)
    (s : State) : KeepsEach P s (s.shellAt i f) :=
  shellAt_keepsEach (fun sh => inv.reads (same sh)) i s

/-! #### Closing and completion (R79 to R84) -/

theorem complete_keepsEach (i : Fin 4) (mark : Irregularity → Irregularity) (s : State) :
    KeepsEach P s (s.complete i mark) :=
  (shellAt_keepsRecords inv (completed_sameRecords mark) i s).trans (.of_scs (complete_scs i mark s))

theorem enterClosing_keepsEach (i : Fin 4) (mark : Irregularity → Irregularity) (s : State) :
    KeepsEach P s (s.enterClosing i mark) := by
  have closing : KeepsEach P s (s.shellAt i (enteredClosing mark s)) :=
    shellAt_keepsRecords inv (enteredClosing_sameRecords mark s) i s
  unfold State.enterClosing
  dsimp only
  split
  · exact closing.trans (complete_keepsEach inv i id _)
  · exact closing

theorem tailEnd_keepsEach (s : State) : KeepsEach P s s.tailEnd := by
  unfold State.tailEnd
  split
  · exact (enterClosing_keepsEach inv _ _ s).trans (boundary_keepsEach _)
  · exact .of_scs rfl

theorem completeReached_keepsEach (n : Nat) (s : State) : KeepsEach P s (s.completeReached n) := by
  induction n generalizing s with
  | zero => exact .refl s
  | succ n ih =>
    unfold State.completeReached
    split
    · exact .refl s
    · exact (complete_keepsEach inv _ _ s).trans ((boundary_keepsEach _).trans (ih _))

theorem dwellOut_keepsEach (i : Fin 4) (s : State) : KeepsEach P s (s.dwellOut i) := by
  unfold State.dwellOut
  split
  · exact (enterClosing_keepsEach inv _ _ s).trans (boundary_keepsEach _)
  · exact .refl s

theorem tailOut_keepsEach (i : Fin 4) (s : State) : KeepsEach P s (s.tailOut i) := by
  unfold State.tailOut
  split
  · exact (complete_keepsEach inv _ _ s).trans (boundary_keepsEach _)
  · exact .refl s

theorem takePulse_keepsEach (s : State) : KeepsEach P s s.takePulse := by
  unfold State.takePulse State.countEdge State.lengthAdvance
  dsimp only
  repeat' split
  · exact .refl s
  · exact (completeReached_keepsEach inv 4 _).after rfl
  all_goals exact .of_scs rfl

/-! #### The head-end (R74 to R78) -/

theorem cutTails_keepsEach (n : Nat) (s : State) : KeepsEach P s (s.cutTails n) := by
  induction n generalizing s with
  | zero => exact .refl s
  | succ n ih =>
    unfold State.cutTails
    split
    · exact .refl s
    · exact (complete_keepsEach inv _ _ s).trans (ih _)

theorem headStep1_keepsEach (s : State) : KeepsEach P s s.headStep1 := by
  unfold State.headStep1
  split
  · exact enterClosing_keepsEach inv _ _ s
  · exact .refl s

theorem headStep2_keepsEach (s : State) : KeepsEach P s s.headStep2 := by
  unfold State.headStep2
  split
  · exact (cutTails_keepsEach inv 4 s).trans (.of_contexts (by simp))
  · exact .refl s

/-- A shell that is opened has what holds of empty records (R77, R91, R108). -/
theorem openShell_keepsEach (i : Fin 4) (bank : ProductBank) (s : State) :
    KeepsEach P s (s.openShell i bank) := by
  refine .of_set (congrArg Scs.contexts (openShell_scs i bank s)) fun sh h _ => ?_
  cases h
  exact inv.opened _ _ _ _

theorem headSteps34_keepsEach (s : State) : KeepsEach P s s.headSteps34 := by
  have allocated : KeepsEach P s s.allocate.2 := allocate_keepsEach s
  unfold State.headSteps34
  split
  · next h =>
    rw [h] at allocated
    exact allocated.trans (missed_keepsEach _)
  · next i u h =>
    rw [h] at allocated
    split
    · exact allocated.trans (missed_keepsEach _)
    · exact allocated.trans ((openShell_keepsEach inv i _ u).trans (settleOpened_keepsEach _))

theorem headEnd_keepsEach (s : State) : KeepsEach P s s.headEnd := by
  unfold State.headEnd
  split
  · exact .of_scs rfl
  · exact (headStep1_keepsEach inv s).trans
      ((headStep2_keepsEach inv _).trans (headSteps34_keepsEach inv _))

theorem debounceOut_keepsEach (s : State) : KeepsEach P s s.debounceOut := by
  unfold State.debounceOut State.takeChange
  split
  · dsimp only
    split
    · exact (headEnd_keepsEach inv _).after rfl
    · exact (tailEnd_keepsEach inv _).after rfl
  · exact .refl s

/-! #### Shot records (R10, R53, R87, R107) -/

/-- A record that is rejected is counted in its shell, and changes none of its records (R87). -/
theorem countReject_keepsEach (o : ShotOutcome) (i : Fin 4) (s : State) :
    KeepsEach P s (s.shellAt i (Shell.countReject o)) :=
  shellAt_keepsRecords inv (countReject_sameRecords o) i s

/-- A context takes an accepted shot whose wall passed the check against its own bank copy (R53). -/
theorem acceptShot_keepsEach {i : Fin 4} {sh : Shell} (e : ChannelEntry) (r : ShotRecord)
    {shot : Shot} (w : WallResult) (t : Nat) {s : State} (hi : s.scs.contexts[i] = .some sh)
    (plausible : sh.bank.plausible shot.wCold = true) :
    KeepsEach P s (s.acceptShot i sh e r shot w t) := by
  have accepted := congrArg (·.scs.contexts) (acceptShot_eq e r shot w t hi).1
  refine .of_set accepted fun after h each => ?_
  cases h
  exact inv.accepts shot sh plausible (each i sh hi)

theorem gauge_keepsEach (c : Fin 8) (e : ChannelEntry) (r : ShotRecord) (i : Fin 4) (position : Nat)
    (times : EchoTimes) (transit t : Nat) (s : State) :
    KeepsEach P s (s.gauge c e r i position times transit t) := by
  unfold State.gauge
  split
  · exact .refl s
  · next sh hi =>
    dsimp only
    split
    · next plausible =>
      exact (acceptShot_keepsEach inv e r _ t hi plausible).trans (.of_scs (finish_scs _ _ _ _ _))
    · exact (countReject_keepsEach inv .implausible i s).trans (.of_scs (by simp))

theorem timeAndGauge_keepsEach (c : Fin 8) (e : ChannelEntry) (r : ShotRecord) (i : Fin 4)
    (position : Nat) (s : State) : KeepsEach P s (s.timeAndGauge c e r i position) := by
  have rejected : ∀ o times, KeepsEach P s (s.rejectAssigned c r i o times) := fun o times =>
    (countReject_keepsEach inv o i s).trans (.of_scs (finish_scs _ _ _ _ _))
  unfold State.timeAndGauge
  split
  · exact rejected _ _
  · dsimp only
    split
    · exact rejected _ _
    · exact (gauge_keepsEach inv _ _ _ _ _ _ _ _ _).after rfl

theorem measure_keepsEach (c : Fin 8) (e : ChannelEntry) (r : ShotRecord) (gap : Nat) (s : State) :
    KeepsEach P s (s.measure c e r gap) := by
  unfold State.measure
  refine KeepsEach.after ?_ (etuChannel_scs c (·.refreshHold r.temperature) s)
  dsimp only
  split
  · exact .of_scs (by simp)
  · exact (countReject_keepsEach inv _ _ _).trans (.of_scs (finish_scs _ _ _ _ _))
  · exact (shellAt_keepsRecords inv (withMissed_sameRecords gap) _ _).trans
      (timeAndGauge_keepsEach inv _ _ _ _ _ _)

theorem takeRecord_keepsEach (payload : List Byte) (s : State) :
    KeepsEach P s (s.takeRecord payload) := by
  rcases takeRecord_scs_cases payload s with same | ⟨c, e, r, gap, u, hu, measured⟩
  · exact .of_scs same
  · rw [measured]
    exact (measure_keepsEach inv c e r gap u).after hu

theorem shotRecord_keepsEach (frame : List Byte) (s : State) :
    KeepsEach P s (s.receive .aLink 0x11 (fun f => State.takeRecord f.payload) frame) := by
  rcases receive_scs_cases .aLink 0x11 (fun f => State.takeRecord f.payload) frame s with
    same | ⟨f, u, hu, taken⟩
  · exact .of_scs same
  · rw [taken]
    exact (takeRecord_keepsEach inv f.payload u).after hu

end

/-! ### Every step -/

section
variable {P : Shell → Prop} (inv : RecordInvariant P)
include inv

/-- Every row that reaches the SCS keeps what holds of each shell's records. -/
theorem exec_reaching_keepsEach {c : Instr} (hc : reachesScs c = true) {s t : State}
    (h : exec c s = .next t) : KeepsEach P s t := by
  have command {act : Command → State → Answer} (row : Instr)
      (ha : ∀ c s, KeepsEach P s (act c s).state) :
      KeepsEach P s (s.event (State.takeCommand row act)) :=
    event_keepsEach (takeCommand_keepsEach ha row) s
  have plain {act : State → Answer} (row : Instr) (ha : ∀ s, KeepsEach P s (act s).state) :
      KeepsEach P s (s.event (State.takeCommand row (noArguments act))) :=
    command row (noArguments_keepsEach ha)
  cases c <;> cases hc <;> cases h
  case shotRecord frame => exact event_keepsEach (shotRecord_keepsEach inv frame) s
  case pulseEdge high => exact (event_keepsEach (takePulse_keepsEach inv) _).after rfl
  case debounceExpiry => exact event_keepsEach (debounceOut_keepsEach inv) s
  case dwellLimit context => exact event_keepsEach (dwellOut_keepsEach inv context) s
  case tailTimeout context => exact event_keepsEach (tailOut_keepsEach inv context) s
  case parkDrainLimit => exact event_keepsEach drainOut_keepsEach s
  case drainedReport => exact event_keepsEach takeDrainedReport_keepsEach s
  case hardReset => exact .of_reset rfl
  case activate => exact plain _ activate_keepsEach
  case forceHead => exact plain _ (headEnd_keepsEach inv)
  case forceTail => exact plain _ (tailEnd_keepsEach inv)
  case park => exact plain _ park_keepsEach
  case unpark => exact plain _ unpark_keepsEach
  case releaseReport => exact command _ (argumentsOf_keepsEach releaseReport_keepsEach 4)
  case restart => exact plain _ restartCommand_keepsEach
  case resetRelease =>
    split
    · exact .of_reset rfl
    · exact .refl s

theorem exec_keepsEach {c : Instr} {s t : State} (h : exec c s = .next t) : KeepsEach P s t := by
  cases hc : reachesScs c with
  | false => exact .of_scs (exec_scs hc h)
  | true => exact exec_reaching_keepsEach inv hc h

/-- A mark of the timebase moves the clocks of the shells and none of their records. -/
theorem millisecond_keepsEach (s : State) : KeepsEach P s s.millisecond := by
  cases h : s.resetHeld with
  | true => rw [State.millisecond, if_pos h]; exact .refl s
  | false =>
    rw [millisecond_eq h]
    intro each i b hb
    rw [Fin.getElem_fin, Vector.getElem_map] at hb
    obtain ⟨a, ha, rfl⟩ := Option.map_eq_some_iff.mp hb
    exact inv.reads (mark_sameRecords a) (each i a ha)

/-- What holds of the records of a shell that is opened, and what a plausible shot keeps, every step
keeps of every shell. -/
theorem step_keepsEach {s t : State} (h : step s = .next t) : KeepsEach P s t := by
  unfold step at h
  split at h
  · exact (exec_keepsEach inv h).after rfl
  · split at h
    · exact exec_keepsEach inv h
    · cases h
      exact millisecond_keepsEach inv s

end

/-- Settles O8: the order of the list and the soundness of the map are properties of a shell's records,
and those change by an accepted shot alone, whose wall passed the check against the same bank copy. -/
theorem stepKeepsShellRecordsSound : Obligations.StepKeepsShellRecordsSound := by
  unfold Obligations.StepKeepsShellRecordsSound
  exact ⟨fun _ _ ordered hs => step_keepsEach listOrdered_recordInvariant hs ordered,
    fun _ _ sound hs => step_keepsEach mapSound_recordInvariant hs sound⟩

end Sys2Proof.Proofs
end

section
/-! PROOFS. The eccentricity of a zone (O41): the extremes of a list of values, and one rounding of the
extreme sector means (R116, R117). -/

namespace Sys2Proof.Proofs

open Sys2Proof.Machine

/-! ### The rounding of chapter 1 -/

/-- The rounding is the integer nearest to the quotient, the upper one of two equally near. -/
theorem roundHalfUp_nearest (num : Nat) {den : Nat} (h : 0 < den) :
    2 * den * roundHalfUp num den ≤ 2 * num + den ∧
      2 * num + den < 2 * den * (roundHalfUp num den + 1) :=
  ⟨Nat.mul_div_le _ _, Nat.lt_mul_div_succ _ (by omega)⟩

/-! ### The extremes of a list of values -/

theorem least_eq (l : List Nat) : least l = l.min? := by
  induction l with
  | nil => rfl
  | cons n rest ih =>
    rw [least, ih, List.min?_cons]
    cases rest.min? with
    | none => rfl
    | some m => exact congrArg _ (Nat.min_comm m n)

theorem greatest_eq (l : List Nat) : greatest l = l.max? := by
  induction l with
  | nil => rfl
  | cons n rest ih =>
    rw [greatest, ih, List.max?_cons]
    cases rest.max? with
    | none => rfl
    | some m => exact congrArg _ (Nat.max_comm m n)

/-- A list that is not empty has a greatest and a least value, and both bound it. -/
theorem extremes_of_nonempty {l : List Nat} (h : l ≠ []) : ∃ high low,
    greatest l = .some high ∧ least l = .some low ∧ high ∈ l ∧ low ∈ l ∧
      ∀ m ∈ l, low ≤ m ∧ m ≤ high := by
  obtain ⟨high, hmax⟩ := Option.isSome_iff_exists.mp (List.isSome_max?_of_ne_nil h)
  obtain ⟨low, hmin⟩ := Option.isSome_iff_exists.mp (List.isSome_min?_of_ne_nil h)
  obtain ⟨high_mem, above⟩ := List.max?_eq_some_iff.mp hmax
  obtain ⟨low_mem, below⟩ := List.min?_eq_some_iff.mp hmin
  exact ⟨high, low, (greatest_eq l).trans hmax, (least_eq l).trans hmin, high_mem, low_mem,
    fun m hm => ⟨below m hm, above m hm⟩⟩

/-! ### The eccentricity of a zone (R116, R117) -/

/-- A cell has a mean exactly when it holds a shot (R97). -/
theorem cell_mean_isSome (cell : Cell) : cell.mean.isSome = cell.holdsShot := by
  unfold Cell.mean Cell.holdsShot
  split <;> simp [*]

theorem sectorMeans_length (row : List Cell) : (sectorMeans row).length = coveredSectors row := by
  rw [sectorMeans, List.length_filterMap_eq_countP, coveredSectors]
  exact List.countP_congr fun cell _ => by rw [cell_mean_isSome]

/-- The eccentricity of two extreme sector means (R117). -/
def eccentricityOf (high low : Nat) : Nat :=
  if high + low = 0 then 0 else roundHalfUp (10000 * (high - low)) (high + low)

theorem eccentricity_absent {minSectors : Nat} {row : List Cell}
    (h : ¬ (1 ≤ coveredSectors row ∧ minSectors ≤ coveredSectors row)) :
    eccentricity minSectors row = .none := if_neg h

/-- With enough sectors covered, the eccentricity is that of the largest and the smallest sector
mean. -/
theorem eccentricity_present {minSectors : Nat} {row : List Cell}
    (h : 1 ≤ coveredSectors row ∧ minSectors ≤ coveredSectors row) : ∃ high low,
    eccentricity minSectors row = .some (eccentricityOf high low) ∧
      high ∈ sectorMeans row ∧ low ∈ sectorMeans row ∧
      ∀ m ∈ sectorMeans row, low ≤ m ∧ m ≤ high := by
  have nonempty : sectorMeans row ≠ [] := by
    rw [← List.length_pos_iff, sectorMeans_length]
    exact h.1
  obtain ⟨high, low, hhigh, hlow, rest⟩ := extremes_of_nonempty nonempty
  refine ⟨high, low, ?_, rest⟩
  rw [eccentricity, if_pos h, hhigh, hlow]
  rfl

theorem eccentricityOf_zero {high low : Nat} (h : high + low = 0) : eccentricityOf high low = 0 :=
  if_pos h

theorem eccentricityOf_nearest {high low : Nat} (h : 0 < high + low) :
    2 * (high + low) * eccentricityOf high low ≤ 2 * (10000 * (high - low)) + (high + low) ∧
      2 * (10000 * (high - low)) + (high + low) <
        2 * (high + low) * (eccentricityOf high low + 1) := by
  rw [eccentricityOf, if_neg h.ne']
  exact roundHalfUp_nearest _ h

theorem eccentricityOf_self (mean : Nat) : eccentricityOf mean mean = 0 := by
  rcases Nat.eq_zero_or_pos (mean + mean) with zero | pos
  · exact eccentricityOf_zero zero
  · have lower := (eccentricityOf_nearest pos).1
    by_contra positive
    have := Nat.le_mul_of_pos_right (2 * (mean + mean)) (Nat.pos_of_ne_zero positive)
    omega

/-- The difference of two means is at most their sum, so the ratio is at most 1. -/
theorem eccentricityOf_le (high low : Nat) : eccentricityOf high low ≤ 10000 := by
  rcases Nat.eq_zero_or_pos (high + low) with zero | pos
  · rw [eccentricityOf_zero zero]; exact Nat.zero_le _
  · have lower := (eccentricityOf_nearest pos).1
    by_contra above
    have := Nat.mul_le_mul_left (2 * (high + low)) (Nat.lt_of_not_le above)
    omega

/-- Settles O41: the eccentricity is one rounding of the two extreme sector means, which are one mean
where one sector is covered. -/
theorem eccentricityIsRoundedOnce : Obligations.EccentricityIsRoundedOnce := by
  unfold Obligations.EccentricityIsRoundedOnce
  intro minSectors row covered means
  refine ⟨eccentricity_absent, fun enough => ?_⟩
  obtain ⟨high, low, present, high_mem, low_mem, bounds⟩ := eccentricity_present enough
  have equal : high = low → eccentricityOf high low = 0 := by
    rintro rfl
    exact eccentricityOf_self high
  refine ⟨_, high, low, present, high_mem, low_mem, bounds, eccentricityOf_le high low,
    fun one => equal ?_, equal, eccentricityOf_nearest, eccentricityOf_zero⟩
  obtain ⟨mean, single⟩ := List.length_eq_one_iff.mp ((sectorMeans_length row).trans one)
  rw [single, List.mem_singleton] at high_mem low_mem
  rw [high_mem, low_mem]

end Sys2Proof.Proofs
end

section
/-! PROOFS. The figures of a shell in its report (O22): the zones reported (R113) and the maximum
eccentricity (R119), each said by what the walk over the zones leaves. -/

namespace Sys2Proof.Proofs

open Sys2Proof.Machine

/-! ### The zones reported (R113) -/

/-- Some cell of the row holds a shot. -/
theorem any_holdsShot_iff (row : List Cell) :
    row.any Cell.holdsShot = true ↔ ∃ cell ∈ row, cell.count ≠ 0 := by
  simp [Cell.holdsShot]

/-- The last of the rows reported holds a shot. -/
theorem reportedRows_last_holdsShot {rows : List (List Cell)} (h : 0 < reportedRows rows) :
    ∃ cell ∈ (rows[reportedRows rows - 1]?).getD [], cell.count ≠ 0 := by
  induction rows with
  | nil => exact absurd h (Nat.lt_irrefl 0)
  | cons row rest ih =>
    rw [reportedRows] at h ⊢
    split at h
    next empty =>
      split at h
      next holds => simpa [empty, holds] using (any_holdsShot_iff row).mp holds
      next => exact absurd h (Nat.lt_irrefl 0)
    next later =>
      have last := ih (Nat.pos_of_ne_zero later)
      obtain ⟨n, hn⟩ := Nat.exists_eq_succ_of_ne_zero later
      simpa [hn] using last

/-- No row past those reported holds a shot. -/
theorem reportedRows_beyond_empty {rows : List (List Cell)} {z : Nat} (h : reportedRows rows ≤ z) :
    ∀ cell ∈ (rows[z]?).getD [], cell.count = 0 := by
  induction rows generalizing z with
  | nil => simp
  | cons row rest ih =>
    rw [reportedRows] at h
    cases z with
    | succ z =>
      refine ih ?_
      split at h <;> omega
    | zero =>
      have none : ¬ row.any Cell.holdsShot = true := by
        split at h
        · split at h
          · omega
          · assumption
        · omega
      rw [any_holdsShot_iff] at none
      simpa using none

/-! ### The maximum eccentricity (R119) -/

/-- The largest of the values that `f` gives below `n`, with the lowest place that has it, or that `f`
gives none. -/
def WorstBelow (f : Nat → Option Nat) (n : Nat) : Option (Nat × Nat) → Prop
  | .none => ∀ y < n, f y = .none
  | .some (e, z) => z < n ∧ f z = .some e ∧
      ∀ y < n, ∀ v, f y = .some v → v ≤ e ∧ (y < z → v < e)

/-- One more place taken in: its value becomes the largest only if it exceeds the one before. -/
theorem worseZone_worstBelow {f : Nat → Option Nat} {n : Nat} {best : Option (Nat × Nat)}
    (h : WorstBelow f n best) : WorstBelow f (n + 1) (worseZone best n (f n)) := by
  have below : ∀ y < n + 1, y < n ∨ y = n := fun y hy => Nat.lt_succ_iff_lt_or_eq.mp hy
  cases value : f n with
  | none =>
    rcases best with _ | ⟨w, z⟩
    · intro y hy
      rcases below y hy with before | rfl
      · exact h y before
      · exact value
    · obtain ⟨hz, hw, worst⟩ := h
      refine ⟨hz.trans n.lt_succ_self, hw, fun y hy v hv => ?_⟩
      rcases below y hy with before | rfl
      · exact worst y before v hv
      · rw [value] at hv; cases hv
  | some v =>
    rcases best with _ | ⟨w, z⟩
    · refine ⟨n.lt_succ_self, value, fun y hy u hu => ?_⟩
      rcases below y hy with before | rfl
      · rw [h y before] at hu; cases hu
      · rw [value] at hu; cases hu
        exact ⟨le_rfl, fun self => absurd self (Nat.lt_irrefl _)⟩
    · obtain ⟨hz, hw, worst⟩ := h
      rw [worseZone]
      split
      next exceeds =>
        refine ⟨n.lt_succ_self, value, fun y hy u hu => ?_⟩
        rcases below y hy with before | rfl
        · have := (worst y before u hu).1
          exact ⟨by omega, fun _ => by omega⟩
        · rw [value] at hu; cases hu
          exact ⟨le_rfl, fun self => absurd self (Nat.lt_irrefl _)⟩
      next within =>
        refine ⟨hz.trans n.lt_succ_self, hw, fun y hy u hu => ?_⟩
        rcases below y hy with before | rfl
        · exact worst y before u hu
        · rw [value] at hu; cases hu
          exact ⟨not_lt.mp within, fun past => by omega⟩

theorem foldl_worseZone_worstBelow (f : Nat → Option Nat) (n : Nat) : WorstBelow f n
    ((List.range n).foldl (fun best z => worseZone best z (f z)) .none) := by
  induction n with
  | zero => exact fun y hy => absurd hy (Nat.not_lt_zero y)
  | succ n ih =>
    rw [List.range_succ, List.foldl_append]
    exact worseZone_worstBelow ih

/-- The maximum eccentricity is the worst of the zones reported. -/
theorem maxEccentricity_worst (sh : Shell) :
    WorstBelow (fun z => eccentricity sh.bank.minSectors (sh.zoneRow z)) sh.zonesReported
      sh.maxEccentricity := foldl_worseZone_worstBelow _ _

end Sys2Proof.Proofs
end

section
/-! PROOFS. The frame of a report stream (O22): its items by index (R113 to R122), and the M-out
arbiter's turn that takes it (R179). -/

namespace Sys2Proof.Proofs

open Sys2Proof.Machine Sys2Proof.Laws

/-! ### The items of a frame (R113, R120 to R122) -/

/-- The type of the stream's next frame and its items: a REPORT payload after sequence number and
index. -/
def nextItems (sh : Shell) (st : Stream) : List Byte :=
  let frame := reportItems sh st.detail st.frameCount st.next
  be 1 frame.1 ++ frame.2

theorem reportPayload_eq (sh : Shell) (st : Stream) :
    reportPayload sh st = be 4 st.sequence ++ be 2 st.next ++ nextItems sh st :=
  List.append_assoc _ _ _

section
variable {sh : Shell} {st : Stream}

theorem nextItems_last (last : st.next + 1 = st.frameCount) :
    nextItems sh st = be 1 4 ++ be 2 st.frameCount := by
  simp only [nextItems, reportItems, if_pos last]

theorem nextItems_head (more : st.next + 1 ≠ st.frameCount) (first : st.next = 0) :
    nextItems sh st = be 1 0 ++ headBytes sh st.detail := by
  simp only [nextItems, reportItems, if_neg more, if_pos first]

theorem nextItems_zone (more : st.next + 1 ≠ st.frameCount) (pos : 1 ≤ st.next)
    (within : st.next ≤ st.detail.zoneFrames sh.zonesReported) :
    nextItems sh st = be 1 1 ++ zoneBytes sh (st.next - 1) := by
  simp only [nextItems, reportItems, if_neg more, if_neg (Nat.one_le_iff_ne_zero.mp pos),
    if_pos within]

theorem nextItems_excursion {e : Excursion} (more : st.next + 1 ≠ st.frameCount)
    (past : st.detail.zoneFrames sh.zonesReported < st.next)
    (listed : sh.excursions[st.next - 1 - st.detail.zoneFrames sh.zonesReported]? = .some e) :
    nextItems sh st = be 1 2 ++
      excursionBytes (st.next - st.detail.zoneFrames sh.zonesReported) e := by
  simp only [nextItems, reportItems, if_neg more, if_neg (Nat.ne_zero_of_lt past),
    if_neg (Nat.not_le.mpr past), listed]

theorem nextItems_row (more : st.next + 1 ≠ st.frameCount)
    (past : st.detail.zoneFrames sh.zonesReported + sh.excursions.length < st.next) :
    nextItems sh st = be 1 3 ++ rowBytes sh
      (st.next - 1 - st.detail.zoneFrames sh.zonesReported - sh.excursions.length) := by
  have unlisted :
      sh.excursions[st.next - 1 - st.detail.zoneFrames sh.zonesReported]? = .none :=
    List.getElem?_eq_none (by omega)
  simp only [nextItems, reportItems, if_neg more, if_neg (Nat.ne_zero_of_lt past),
    if_neg (Nat.not_le.mpr (Nat.lt_of_add_right_lt past)), unlisted]

end

/-- Every detail level but SUMMARY has a ZONE frame for each zone reported (R113). -/
theorem zoneFrames_eq (d : Detail) (z : Nat) : d.zoneFrames z = if d = .summary then 0 else z := by
  cases d <;> rfl

/-! ### The bytes of a frame's items (R115 to R118, R174) -/

/-- A flag's place in a byte. -/
theorem mul_toNat_eq_ite (n : Nat) (b : Bool) : n * b.toNat = if b then n else 0 := by
  cases b <;> simp

theorem toNat_eq_ite (b : Bool) : b.toNat = if b then 1 else 0 := by cases b <;> rfl

theorem irregularity_code (r : Irregularity) : r.code =
    (if r.tailForced then 1 else 0) + (if r.tailCut then 2 else 0) + (if r.dwell then 4 else 0) +
      (if r.tailStalled then 8 else 0) + if r.excursionsOverflowed then 16 else 0 := by
  simp only [Irregularity.code, mul_toNat_eq_ite]
  simp only [toNat_eq_ite]

theorem verdictByte_eq (b : ProductBank) (row : List Cell) : verdictByte b row =
    (if verdictBelow b row then 1 else 0) + if verdictAbove b row then 2 else 0 := by
  rw [verdictByte, mul_toNat_eq_ite, toNat_eq_ite]

theorem coveredSectors_eq (row : List Cell) :
    coveredSectors row = (row.filter Cell.holdsShot).length := List.countP_eq_length_filter

theorem zoneMean_eq (row : List Cell) : zoneMean row =
    if (row.filter Cell.holdsShot).length = 0 then .none
    else .some (roundHalfUp (sectorMeans row).sum (row.filter Cell.holdsShot).length) := by
  rw [zoneMean, coveredSectors_eq]

theorem verdictAbove_eq (b : ProductBank) (row : List Cell) : verdictAbove b row =
    (zoneMax row).any fun m => decide (b.nominal + b.upperTolerance < m) := by
  unfold verdictAbove ProductBank.upperLimit
  cases zoneMax row with
  | none => rfl
  | some m => exact decide_eq_decide.mpr (by omega)

/-! ### The arbiter's turn (R179) -/

theorem exec_sendReportFrame {s : State} {st : Stream} {i : Fin 4} {sh : Shell}
    (live : s.resetHeld = false) (lock : s.mli.inLock = true) (free : s.mli.sending = .none)
    (replies : s.cmu.replies = []) (urgent : s.evu.urgent = []) (streaming : s.rpb = .some st)
    (context : s.contextOf st.sequence = .some i) (shell : s.scs.contexts[i] = .some sh) :
    let last := decide (st.next + 1 = st.frameCount)
    exec .sendReportFrame s = .next { s with
      rpb := if last then .none else .some { st with next := st.next + 1 }
      mli.sending := .some ⟨0x43, 0, reportPayload sh st⟩
      counters :=
        { s.counters with
          mLink.framesSent := inc32 s.counters.mLink.framesSent
          rpb.framesSent := inc32 s.counters.rpb.framesSent
          rpb.streamsCompleted := if last then inc32 s.counters.rpb.streamsCompleted
            else s.counters.rpb.streamsCompleted } } := by
  have takes : s.mTakes .report = true := by
    simp [State.mTakes, State.mReady, State.mClass, lock, free, replies, urgent, streaming]
  have streamed : s.streamedShell st = .some sh := by
    rw [State.streamedShell, context]
    exact shell
  show Host.Outcome.next (s.event _) = _
  rw [event_live live]
  simp only [State.takeReportFrame, takes, if_true, streaming, streamed]
  exact congrArg _ (reportDrained_same rfl rfl rfl)

/-- Settles O22: the arbiter takes the next frame of the stream, whose items are said index by index;
the zones reported and the maximum eccentricity are what their walks over the map leave. -/
theorem reportFrameAdvancesTheStream : Obligations.ReportFrameAdvancesTheStream := by
  unfold Obligations.ReportFrameAdvancesTheStream
  intro s st i sh live lock free replies urgent streaming context shell last zones listed rowOf
    tailMark mark meanOf
  have zones_eq : st.detail.zoneFrames sh.zonesReported = zones := zoneFrames_eq _ _
  have ends : last = true → st.next + 1 = st.frameCount := of_decide_eq_true
  have more : last = false → st.next + 1 ≠ st.frameCount := of_decide_eq_false
  have worst := maxEccentricity_worst sh
  refine ⟨nextItems sh st, ?sent, fun h => nextItems_last (ends h), fun h first => ?head,
    fun h pos within => ?zone, fun e h past entry => ?excursion, fun h past => ?row,
    reportedRows_last_holdsShot, fun z beyond => reportedRows_beyond_empty beyond,
    fun e z largest => ?largest, fun none => ?none⟩
  case sent =>
    rw [exec_sendReportFrame live lock free replies urgent streaming context shell,
      reportPayload_eq]
  case head =>
    rw [nextItems_head (more h) first]
    refine congrArg _ ?_
    unfold headBytes
    rw [irregularity_code]
    cases sh.maxEccentricity <;> rfl
  case zone =>
    rw [nextItems_zone (more h) pos (zones_eq ▸ within), zoneBytes, coveredSectors_eq, zoneMean_eq,
      verdictByte_eq, verdictAbove_eq, verdictBelow, zoneMin, zoneMax, least_eq, greatest_eq]
    rfl
  case excursion =>
    rw [nextItems_excursion (more h) (zones_eq ▸ past) (zones_eq ▸ entry), zones_eq]
    rfl
  case row =>
    rw [nextItems_row (more h) (zones_eq ▸ past), zones_eq]
    rfl
  case largest =>
    rw [largest] at worst
    exact worst
  case none =>
    rw [none] at worst
    exact worst

end Sys2Proof.Proofs
end

section
/-! PROOFS. The Table Store's commands taken: the loads in full and in short form (O42, O43) and SELECT
BANK (O48), with what each answers and the one entry it writes (R127 to R132, R142). -/

namespace Sys2Proof.Proofs

open Sys2Proof.Machine Sys2Proof.Laws

/-! ### A command that reports nothing to the other blocks -/

/-- The mode, the references and the active set stand: what a drained report would follow. -/
structure Unreported (s t : State) : Prop where
  scs : t.scs = s.scs
  rfs : t.rfs = s.rfs
  active : t.tbs.active = s.tbs.active

/-- The event of a command whose answer leaves the mode, the references and the active set: the command
acts, and its reply is queued (R180). -/
theorem event_acts {s : State} {c : Command} {rest : List Command} {row : Instr}
    {act : Command → State → Answer} {a : Answer} (hw : s.Waits c rest) (hr : c.row = row)
    (h : act c (acting rest s) = a) (kept : Unreported (acting rest s) a.state) :
    s.event (State.takeCommand row act) = withReply c a := by
  rw [event_live hw.1, takeCommand_waits _ hw hr]
  refine (congrArg (fun a => s.reportDrained (withReply c a)) h).trans ?_
  exact reportDrained_same (congrArg (·.mode) kept.scs) (congrArg (·.channels) kept.rfs)
    (congrArg (·.channels) kept.active)

/-! ### The checks of a load (R131) -/

section
variable {specs : List FieldSpec} {tie : List Int → Nat → Bool} {write : List Int → State → State}
  {args : List Byte} {s : State}

theorem load_busy (h : s.tbs.activationPending = true) :
    s.load specs tie write args = s.loadRefused .busy [] := if_pos h

theorem load_range {n : Nat} (h : s.tbs.activationPending = false)
    (fails : firstFailure (tie (readFields specs args)) 1 specs (readFields specs args) = .some n) :
    s.load specs tie write args = s.loadRefused .range (be 1 n) := by
  unfold State.load
  dsimp only
  rw [if_neg (by rw [h]; exact Bool.false_ne_true), fails]

theorem load_taken (h : s.tbs.activationPending = false)
    (passes : firstFailure (tie (readFields specs args)) 1 specs (readFields specs args) = .none) :
    s.load specs tie write args = (write (readFields specs args) s).loadTaken := by
  unfold State.load
  dsimp only
  rw [if_neg (by rw [h]; exact Bool.false_ne_true), passes]

/-- A load reports nothing when its write does not. -/
theorem load_unreported (h : ∀ v, Unreported s (write v s)) :
    Unreported s (s.load specs tie write args).state := by
  cases hp : s.tbs.activationPending with
  | true => rw [load_busy hp]; exact ⟨rfl, rfl, rfl⟩
  | false =>
    cases hf : firstFailure (tie (readFields specs args)) 1 specs (readFields specs args) with
    | some n => rw [load_range hp hf]; exact ⟨rfl, rfl, rfl⟩
    | none =>
      rw [load_taken hp hf]
      obtain ⟨scs, rfs, active⟩ := h (readFields specs args)
      exact ⟨scs, rfs, active⟩

end

/-- The event of a command that is a load whose write reports nothing. -/
theorem event_load {s : State} {c : Command} {rest : List Command} {row : Instr}
    {act : Command → State → Answer} {specs : List FieldSpec} {tie : List Int → Nat → Bool}
    {write : List Int → State → State} (hw : s.Waits c rest) (hr : c.row = row)
    (h : act c (acting rest s) = (acting rest s).load specs tie write c.args)
    (kept : ∀ v, Unreported (acting rest s) (write v (acting rest s))) :
    s.event (State.takeCommand row act) =
      withReply c ((acting rest s).load specs tie write c.args) :=
  event_acts hw hr h (load_unreported kept)

/-! ### The rows of the full forms -/

/-- The fields of a velocity table take two bytes and four for each point (R128). -/
theorem fieldsLength_velocitySpecs (n : Nat) : fieldsLength (velocitySpecs n) = 2 + 4 * n := by
  simp only [fieldsLength, velocitySpecs, field, List.map_cons, List.map_flatten, List.map_replicate,
    List.map_nil, List.sum_cons, List.sum_flatten, List.sum_nil, List.sum_replicate, smul_eq_mul]
  omega

section
variable {s : State} {c : Command} {rest : List Command} (hw : s.Waits c rest)
include hw

theorem exec_loadChannel (hc : c.code = 0x02) (hn : c.args.length = 44) :
    exec .loadChannel s = .next (withReply c ((acting rest s).load channelSpecs channelTie
      (fun v s => s.stageChannel (natField v 1) (.some (channelOfFields v))) c.args)) := by
  have row : c.row = .loadChannel := by simp [Command.row, hc, hn]
  exact congrArg Host.Outcome.next (event_load hw row (if_pos hn) fun _ => ⟨rfl, rfl, rfl⟩)

theorem exec_loadVelocity (hc : c.code = 0x03) (two : 2 ≤ c.args.length)
    (hn : c.args.length = 2 + 4 * argByte c.args 1) :
    exec .loadVelocity s = .next (withReply c ((acting rest s).load
      (velocitySpecs (argByte c.args 1)) velocityTie
      (fun v s => s.stageVelocity (natField v 1) (.some (velocityOfFields v))) c.args)) := by
  have long : c.args.length ≠ 1 := by omega
  have row : c.row = .loadVelocity := by simp [Command.row, hc, long]
  have fits : c.args.length = fieldsLength (velocitySpecs (argByte c.args 1)) := by
    rw [fieldsLength_velocitySpecs]; exact hn
  exact congrArg Host.Outcome.next (event_load hw row ((if_pos two).trans (if_pos fits))
    fun _ => ⟨rfl, rfl, rfl⟩)

theorem exec_loadBank (hc : c.code = 0x04) (hn : c.args.length = 34) :
    exec .loadBank s = .next (withReply c ((acting rest s).load bankSpecs bankTie
      (fun v s => s.stageBank (natField v 1) (.some (bankOfFields v))) c.args)) := by
  have row : c.row = .loadBank := by simp [Command.row, hc, hn]
  exact congrArg Host.Outcome.next (event_load hw row (if_pos hn) fun _ => ⟨rfl, rfl, rfl⟩)

theorem exec_loadLine (hc : c.code = 0x05) (hn : c.args.length = 20) :
    exec .loadLine s = .next (withReply c ((acting rest s).load lineSpecs (fun _ _ => true)
      (fun v s => s.stageLine (.some (lineOfFields v))) c.args)) := by
  have row : c.row = .loadLine := by simp [Command.row, hc, List.ne_nil_of_length_eq_add_one hn]
  exact congrArg Host.Outcome.next (event_load hw row (if_pos hn) fun _ => ⟨rfl, rfl, rfl⟩)

end

/-- Settles O42: each full form is the load of its fields, and a load that passes writes its entry. -/
theorem loadReplacesTheStagedEntry : Obligations.LoadReplacesTheStagedEntry := by
  unfold Obligations.LoadReplacesTheStagedEntry
  intro s c rest hw free u taken channel velocity bank line
  have idle : (acting rest s).tbs.activationPending = false := free
  refine ⟨fun hc hn passes => ?channel, fun hc two hn passes => ?velocity,
    fun hc hn passes => ?bank, fun hc hn passes => ?line⟩
  case channel => rw [exec_loadChannel hw hc hn, load_taken idle passes]; rfl
  case velocity => rw [exec_loadVelocity hw hc two hn, load_taken idle passes]; rfl
  case bank => rw [exec_loadBank hw hc hn, load_taken idle passes]; rfl
  case line => rw [exec_loadLine hw hc hn, load_taken (tie := fun _ _ => true) idle passes]; rfl

/-! ### The short form (R132) -/

/-- A load of one byte that names a place from 0 to `limit`. -/
theorem load_place {s : State} {limit : Nat} {write : List Int → State → State} (b : Byte) :
    s.load [field 1 0 limit] (fun _ _ => true) write [b] =
      if s.tbs.activationPending then s.loadRefused .busy []
      else if b.toNat ≤ limit then (write [(b.toNat : Int)] s).loadTaken
      else s.loadRefused .range [1] := by
  have value : readFields [field 1 0 limit] [b] = [(b.toNat : Int)] := by
    simp [readFields, field, ofBytes]
  cases hp : s.tbs.activationPending with
  | true => exact load_busy hp
  | false =>
    rw [if_neg Bool.false_ne_true]
    by_cases within : b.toNat ≤ limit
    · have passes : firstFailure (fun _ => true) 1 [field 1 0 limit] [(b.toNat : Int)] = .none := by
        simp [firstFailure, field, within]
      rw [if_pos within, load_taken hp (by rw [value]; exact passes), value]
    · have fails : firstFailure (fun _ => true) 1 [field 1 0 limit] [(b.toNat : Int)] = .some 1 := by
        simp [firstFailure, field, within]
      rw [if_neg within, load_range hp (by rw [value]; exact fails), be_one (by decide)]
      rfl

/-- A load without fields fails no field. -/
theorem load_empty {s : State} {tie : List Int → Nat → Bool} {write : List Int → State → State}
    (args : List Byte) : s.load [] tie write args =
      if s.tbs.activationPending then s.loadRefused .busy [] else (write [] s).loadTaken := rfl

/-- One byte of arguments is the short form of the loads that name a place. -/
theorem row_shortForm {c : Command} {b : Byte}
    (hc : c.code = 0x02 ∨ c.code = 0x03 ∨ c.code = 0x04) (ha : c.args = [b]) :
    c.row = .loadShortForm := by
  rcases hc with h | h | h <;> simp [Command.row, h, ha]

section
variable {s : State} {c : Command} {rest : List Command} (hw : s.Waits c rest)
include hw

/-- The short forms of a channel, a velocity table and a bank: the byte names the place whose entry
`remove` makes not present. -/
theorem exec_loadShortForm {limit : Nat} {remove : Nat → State → State} {b : Byte}
    (hc : c.code = 0x02 ∨ c.code = 0x03 ∨ c.code = 0x04) (ha : c.args = [b])
    (h : (acting rest s).loadShortForm c = (acting rest s).load [field 1 0 limit] (fun _ _ => true)
      (fun v s => remove (natField v 1) s) c.args)
    (kept : ∀ n, Unreported (acting rest s) (remove n (acting rest s))) :
    exec .loadShortForm s = .next
      (if s.tbs.activationPending then withReply c ((acting rest s).loadRefused .busy [])
      else if b.toNat ≤ limit then withReply c (remove b.toNat (acting rest s)).loadTaken
      else withReply c ((acting rest s).loadRefused .range [1])) := by
  show Host.Outcome.next (s.event (State.takeCommand .loadShortForm State.loadShortForm)) = _
  rw [event_load hw (row_shortForm hc ha) h fun v => kept (natField v 1), ha, load_place,
    apply_ite (withReply c), apply_ite (withReply c)]
  rfl

theorem exec_removeLine (hc : c.code = 0x05) (ha : c.args = []) :
    exec .loadShortForm s = .next
      (if s.tbs.activationPending then withReply c ((acting rest s).loadRefused .busy [])
      else withReply c ((acting rest s).stageLine .none).loadTaken) := by
  have row : c.row = .loadShortForm := by simp [Command.row, hc, ha]
  have acts : (acting rest s).loadShortForm c = (acting rest s).load [] (fun _ _ => true)
      (fun _ s => s.stageLine .none) c.args := by rw [State.loadShortForm, hc]; rfl
  show Host.Outcome.next (s.event (State.takeCommand .loadShortForm State.loadShortForm)) = _
  rw [event_load hw row acts fun _ => ⟨rfl, rfl, rfl⟩, load_empty, apply_ite (withReply c)]
  rfl

end

/-- A load that is not taken: BUSY, or RANGE with the ordinal of the failing field (R131). -/
theorem exec_load_refused {s : State} {c : Command} {rest : List Command} {row : Instr}
    {specs : List FieldSpec} {tie : List Int → Nat → Bool} {write : List Int → State → State}
    (h : exec row s =
      .next (withReply c ((acting rest s).load specs tie write c.args))) :
    let refused := { s.counters with tbs.loadsRefused := inc32 s.counters.tbs.loadsRefused }
    (s.tbs.activationPending = true →
      exec row s = .next { s.replied c rest .busy [] with counters := refused }) ∧
    (s.tbs.activationPending = false → ∀ n, n < 256 →
      firstFailure (tie (readFields specs c.args)) 1 specs (readFields specs c.args) = .some n →
      exec row s =
        .next { s.replied c rest .range [BitVec.ofNat 8 n] with counters := refused }) := by
  refine ⟨fun busy => ?_, fun free n hn fails => ?_⟩
  · have pending : (acting rest s).tbs.activationPending = true := busy
    rw [h, load_busy pending]
    rfl
  · have idle : (acting rest s).tbs.activationPending = false := free
    rw [h, load_range idle fails, be_one hn]
    rfl

/-- Settles O43: a full form is refused by the two checks of every load, and a short form is a load of
one place, or of none for the line setup. -/
theorem loadsAreRefusedOrRemoveEntries : Obligations.LoadsAreRefusedOrRemoveEntries := by
  unfold Obligations.LoadsAreRefusedOrRemoveEntries
  refine ⟨fun s c rest hw => ⟨?channel, ?velocity, ?bank, ?line⟩,
    fun s c rest b hw => ⟨?noChannel, ?noVelocity, ?noBank, ?noLine⟩⟩
  case channel => exact fun hc hn => exec_load_refused (exec_loadChannel hw hc hn)
  case velocity => exact fun hc two hn => exec_load_refused (exec_loadVelocity hw hc two hn)
  case bank => exact fun hc hn => exec_load_refused (exec_loadBank hw hc hn)
  case line =>
    exact fun hc hn => exec_load_refused (tie := fun _ _ => true) (exec_loadLine hw hc hn)
  case noChannel =>
    exact fun hc ha => exec_loadShortForm (limit := 7) (remove := fun n => State.stageChannel n .none)
      hw (.inl hc) ha (by rw [State.loadShortForm, hc]; rfl) fun _ => ⟨rfl, rfl, rfl⟩
  case noVelocity =>
    exact fun hc ha => exec_loadShortForm (limit := 3) (remove := fun n => State.stageVelocity n .none)
      hw (.inr (.inl hc)) ha (by rw [State.loadShortForm, hc]; rfl) fun _ => ⟨rfl, rfl, rfl⟩
  case noBank =>
    exact fun hc ha => exec_loadShortForm (limit := 3) (remove := fun n => State.stageBank n .none)
      hw (.inr (.inr hc)) ha (by rw [State.loadShortForm, hc]; rfl) fun _ => ⟨rfl, rfl, rfl⟩
  case noLine => exact fun hc ha => exec_removeLine hw hc ha

/-! ### SELECT BANK (R142) -/

/-- Settles O48: the identifier is a bank's or is above 3, and either way no other block is told. -/
theorem selectBankSetsTheBank : Obligations.SelectBankSetsTheBank := by
  unfold Obligations.SelectBankSetsTheBank
  intro s c rest b hw hc ha
  have row : c.row = .selectBank := by simp [Command.row, hc]
  have one : c.args.length = 1 := by rw [ha]; rfl
  have byte : argByte c.args 0 = b.toNat := by rw [ha]; rfl
  refine ⟨fun bank hb => ?_, fun beyond => ?_⟩
  · have selects : State.selectBank c.args (acting rest s) =
        ({ acting rest s with tbs.selectedBank := bank } : State).answer .done := by
      simp only [State.selectBank, byte, hb, bank.isLt, dif_pos]
    have taken := event_acts (act := argumentsOf 1 State.selectBank) hw row
      ((if_pos one).trans selects) ⟨rfl, rfl, rfl⟩
    exact congrArg Host.Outcome.next taken
  · have refuses : State.selectBank c.args (acting rest s) = (acting rest s).answer .range := by
      simp only [State.selectBank, byte, Nat.not_lt.mpr beyond, dif_neg, not_false_eq_true]
    have taken := event_acts (act := argumentsOf 1 State.selectBank) hw row
      ((if_pos one).trans refuses) ⟨rfl, rfl, rfl⟩
    exact congrArg Host.Outcome.next taken

end Sys2Proof.Proofs
end

section
/-! PROOFS. The fields of a load read from its bytes and written back (O44): any bytes of the form's
length are the fields they carry, and the values that pass the checks are those of the entry they make
(R127 to R131, R133). -/

namespace Sys2Proof.Proofs

open Sys2Proof.Machine Sys2Proof.Laws

/-! ### Bytes and fields -/

/-- The bytes of the fields are the fields read from them, whatever the bytes. -/
theorem writeFields_readFields {specs : List FieldSpec} (wide : ∀ f ∈ specs, 0 < f.width) :
    ∀ {l : List Byte}, l.length = fieldsLength specs → writeFields specs (readFields specs l) = l := by
  induction specs with
  | nil => exact fun h => (List.length_eq_zero_iff.mp h).symm
  | cons f fs ih =>
    intro l h
    have total : fieldsLength (f :: fs) = f.width + fieldsLength fs := List.sum_cons
    have taken : (l.take f.width).length = f.width := by rw [List.length_take]; omega
    have others : writeFields fs (readFields fs (l.drop f.width)) = l.drop f.width :=
      ih (fun g hg => wide g (List.mem_cons_of_mem _ hg)) (by rw [List.length_drop]; omega)
    have first : (if f.signed then beSigned f.width (ofBytesSigned (l.take f.width))
        else be f.width (ofBytes (l.take f.width))) = l.take f.width := by
      have pos := wide f List.mem_cons_self
      have nonempty : l.take f.width ≠ [] := List.ne_nil_of_length_pos (by omega)
      have signed := beSigned_ofBytesSigned _ nonempty
      have unsigned := be_ofBytes (l.take f.width)
      rw [taken] at signed unsigned
      rw [signed, unsigned, ite_self]
    refine Eq.trans ?_ (List.take_append_drop f.width l)
    rw [readFields, writeFields, others]
    refine congrArg (· ++ _) (Eq.trans ?_ first)
    cases f.signed <;> rfl

theorem readFields_length (specs : List FieldSpec) (l : List Byte) :
    (readFields specs l).length = specs.length := by
  induction specs generalizing l with
  | nil => rfl
  | cons f fs ih => exact congrArg (· + 1) (ih _)

/-! ### Values in range (R131) -/

/-- A value lies in the range of its field. -/
def InRange (f : FieldSpec) (x : Int) : Prop := f.low ≤ x ∧ x ≤ f.high

/-- When no field fails, every value lies in its range. -/
theorem inRange_of_firstFailure {tie : Nat → Bool} {specs : List FieldSpec} {v : List Int} {k : Nat}
    (h : firstFailure tie k specs v = .none) (hl : v.length = specs.length) :
    List.Forall₂ InRange specs v := by
  induction specs generalizing v k with
  | nil => rw [List.length_eq_zero_iff.mp hl]; exact .nil
  | cons f fs ih =>
    obtain _ | ⟨x, xs⟩ := v
    · cases hl
    · rw [firstFailure] at h
      split at h
      next passes =>
        obtain ⟨low, high, -⟩ := passes
        exact .cons ⟨low, high⟩ (ih h (Nat.succ.inj hl))
      next => cases h

/-- Field number `ordinal`, counted from 1; past the last, a field that holds 0 alone. -/
def specOf (specs : List FieldSpec) (ordinal : Nat) : FieldSpec :=
  specs.getD (ordinal - 1) (field 0 0 0)

section
variable {specs : List FieldSpec} {v : List Int} (h : List.Forall₂ InRange specs v)
include h

theorem fieldOf_inRange (ordinal : Nat) : InRange (specOf specs ordinal) (fieldOf v ordinal) := by
  unfold specOf fieldOf
  generalize ordinal - 1 = i
  induction h generalizing i with
  | nil => exact ⟨le_refl _, le_refl _⟩
  | cons first _ ih =>
    cases i with
    | zero => exact first
    | succ i => exact ih i

/-- Where the range begins at 0 or above, the value is its field's count. -/
theorem natField_cast {ordinal : Nat} (low : 0 ≤ (specOf specs ordinal).low) :
    (natField v ordinal : Int) = fieldOf v ordinal :=
  Int.toNat_of_nonneg (le_trans low (fieldOf_inRange h ordinal).1)

end

/-- The values are the fields one by one. -/
theorem eq_map_fieldOf {v : List Int} {n : Nat} (h : v.length = n) :
    (List.range n).map (fun i => fieldOf v (i + 1)) = v := by
  subst h
  refine List.ext_getElem (by simp) fun i hi hv => ?_
  simp [fieldOf, hv]

/-! ### Codes -/

/-- A yes/no item is its code. -/
theorem bool_toNat_cast {x : Int} (low : 0 ≤ x) (high : x ≤ 1) :
    (((x.toNat == 1).toNat : Nat) : Int) = x := by
  obtain rfl | rfl : x = 0 ∨ x = 1 := by omega
  all_goals rfl

theorem forwardMode_code_cast {x : Int} (low : 0 ≤ x) (high : x ≤ 2) :
    ((ForwardMode.ofCode x.toNat).code : Int) = x := by
  obtain rfl | rfl | rfl : x = 0 ∨ x = 1 ∨ x = 2 := by omega
  all_goals rfl

theorem pulseEdge_code_cast {x : Int} (low : 0 ≤ x) (high : x ≤ 2) :
    ((PulseEdge.ofCode x.toNat).code : Int) = x := by
  obtain rfl | rfl | rfl : x = 0 ∨ x = 1 ∨ x = 2 := by omega
  all_goals rfl

theorem polarity_code_cast {x : Int} (low : 0 ≤ x) (high : x ≤ 1) :
    ((Polarity.ofCode x.toNat).code : Int) = x := by
  obtain rfl | rfl : x = 0 ∨ x = 1 := by omega
  all_goals rfl

/-! ### The entries (R127 to R130) -/

section
variable {v : List Int}

theorem channelOfFields_fields (h : List.Forall₂ InRange channelSpecs v)
    (interval : 100 ≤ natField v 18) : (channelOfFields v).fields (natField v 1) = v := by
  have nat : ∀ k < 25, k ≠ 20 → (natField v k : Int) = fieldOf v k := fun k hk signed =>
    natField_cast h (by revert k; decide)
  have enabled : (((natField v 2 == 1).toNat : Nat) : Int) = fieldOf v 2 :=
    bool_toNat_cast (fieldOf_inRange h 2).1 (fieldOf_inRange h 2).2
  have live : (((natField v 23 == 1).toNat : Nat) : Int) = fieldOf v 23 :=
    bool_toNat_cast (fieldOf_inRange h 23).1 (fieldOf_inRange h 23).2
  have forward : ((ForwardMode.ofCode (natField v 24)).code : Int) = fieldOf v 24 :=
    forwardMode_code_cast (fieldOf_inRange h 24).1 (fieldOf_inRange h 24).2
  refine Eq.trans ?_ (eq_map_fieldOf (n := 24) h.length_eq.symm)
  simp only [ChannelEntry.fields, channelOfFields, Nat.max_eq_right interval, enabled, live, forward]
  simp [nat, List.range_succ]

theorem bankOfFields_fields (h : List.Forall₂ InRange bankSpecs v) :
    (bankOfFields v).fields (natField v 1) = v := by
  have nat : ∀ k < 15, (natField v k : Int) = fieldOf v k := fun k hk =>
    natField_cast h (by revert k; decide)
  refine Eq.trans ?_ (eq_map_fieldOf (n := 14) h.length_eq.symm)
  simp [ProductBank.fields, bankOfFields, nat, List.range_succ]

theorem lineOfFields_fields (h : List.Forall₂ InRange lineSpecs v) :
    (lineOfFields v).fields = v := by
  have nat : ∀ k < 12, (natField v k : Int) = fieldOf v k := fun k hk =>
    natField_cast h (by revert k; decide)
  have edge : ((PulseEdge.ofCode (natField v 1)).code : Int) = fieldOf v 1 :=
    pulseEdge_code_cast (fieldOf_inRange h 1).1 (fieldOf_inRange h 1).2
  have polarity : ((Polarity.ofCode (natField v 3)).code : Int) = fieldOf v 3 :=
    polarity_code_cast (fieldOf_inRange h 3).1 (fieldOf_inRange h 3).2
  have keep : (((natField v 10 == 1).toNat : Nat) : Int) = fieldOf v 10 :=
    bool_toNat_cast (fieldOf_inRange h 10).1 (fieldOf_inRange h 10).2
  refine Eq.trans ?_ (eq_map_fieldOf (n := 11) h.length_eq.symm)
  simp only [LineSetup.fields, lineOfFields, edge, polarity, keep]
  simp [nat, List.range_succ]

end

/-! ### A velocity table (R128) -/

/-- The fields of a table's `n` points. -/
theorem pointsOfFields_fields (n : Nat) {v : List Int} (h : List.Forall₂ InRange
      (List.replicate n [field 2 0 20000, field 2 3000 7000]).flatten v) :
    (pointsOfFields v).length = n ∧
      ((pointsOfFields v).map fun p => [(p.temperature : Int), (p.velocity : Int)]).flatten = v := by
  induction n generalizing v with
  | zero => cases h; exact ⟨rfl, rfl⟩
  | succ n ih =>
    rw [List.replicate_succ, List.flatten_cons] at h
    obtain _ | ⟨⟨t0, -⟩, _ | ⟨⟨w0, -⟩, others⟩⟩ := h
    obtain ⟨count, values⟩ := ih others
    refine ⟨congrArg (· + 1) count, ?_⟩
    rw [pointsOfFields, List.map_cons, List.flatten_cons, values, Int.toNat_of_nonneg t0,
      Int.toNat_of_nonneg (le_trans (by decide) w0)]
    rfl

/-- The count that the second byte carries is the number of points that follow (R128). -/
theorem velocityOfFields_fields {args : List Byte} (two : 2 ≤ args.length)
    (h : List.Forall₂ InRange (velocitySpecs (argByte args 1))
      (readFields (velocitySpecs (argByte args 1)) args)) :
    let v := readFields (velocitySpecs (argByte args 1)) args
    (velocityOfFields v).points.length = argByte args 1 ∧
      (velocityOfFields v).fields (natField v 1) = v := by
  obtain _ | ⟨a, _ | ⟨b, rest⟩⟩ := args
  · cases two
  · exact absurd two (by simp)
  · obtain _ | ⟨⟨identifier, -⟩, _ | ⟨-, points⟩⟩ := h
    obtain ⟨count, values⟩ := pointsOfFields_fields _ points
    refine ⟨count, ?_⟩
    have second : ((argByte (a :: b :: rest) 1 : Nat) : Int) = ofBytes [b] := by
      simp [argByte, ofBytes]
    have same := congrArg₂ List.cons (Int.toNat_of_nonneg identifier)
      (congrArg₂ List.cons ((congrArg Nat.cast count).trans second) values)
    exact same

theorem velocitySpecs_wide (n : Nat) : ∀ f ∈ velocitySpecs n, 0 < f.width := by
  intro f hf
  simp only [velocitySpecs, List.mem_cons, List.mem_flatten, List.mem_replicate] at hf
  obtain rfl | rfl | ⟨point, ⟨-, rfl⟩, hf⟩ := hf
  · decide
  · decide
  · revert f; decide

/-- Settles O44: bytes of a form's length are the fields they carry, and fields in range are those of
the entry they make. -/
theorem tableFieldsReadBackAsLoaded : Obligations.TableFieldsReadBackAsLoaded := by
  unfold Obligations.TableFieldsReadBackAsLoaded
  intro args
  refine ⟨fun hn passes interval => ?channel, fun two hn passes => ?velocity,
    fun hn passes => ?bank, fun hn passes => ?line⟩
  case channel =>
    rw [channelOfFields_fields (inRange_of_firstFailure passes (readFields_length _ _)) interval]
    exact writeFields_readFields (by decide) hn
  case velocity =>
    obtain ⟨count, values⟩ := velocityOfFields_fields two
      (inRange_of_firstFailure passes (readFields_length _ _))
    rw [count, values]
    exact writeFields_readFields (velocitySpecs_wide _)
      (hn.trans (fieldsLength_velocitySpecs _).symm)
  case bank =>
    rw [bankOfFields_fields (inRange_of_firstFailure passes (readFields_length _ _))]
    exact writeFields_readFields (by decide) hn
  case line =>
    rw [lineOfFields_fields (inRange_of_firstFailure passes (readFields_length _ _))]
    exact writeFields_readFields (by decide) hn

end Sys2Proof.Proofs
end

section
/-! PROOFS. READ TABLE (O45), which shows an entry of either set, and ACTIVATE as far as its checks and
its wait for the ring (O46) (R133 to R135). -/

namespace Sys2Proof.Proofs

open Sys2Proof.Machine Sys2Proof.Laws

/-! ### READ TABLE (R133) -/

theorem readTableInRange_iff (set kind index : Nat) : readTableInRange set kind index = true ↔
    set ≤ 1 ∧ kind ≤ 3 ∧ (kind = 0 → index ≤ 7) ∧ (kind = 1 ∨ kind = 2 → index ≤ 3) := by
  match kind with
  | 0 => simp [readTableInRange]
  | 1 => simp [readTableInRange]
  | 2 => simp [readTableInRange]
  | 3 => simp [readTableInRange]
  | k + 4 => simp [readTableInRange]

/-- A byte is the field of the number it carries. -/
theorem be_toNat (b : Byte) : be 1 b.toNat = [b] := by
  rw [be_one b.isLt, BitVec.ofNat_toNat, BitVec.setWidth_eq]

section
variable (t : TableSet)

theorem entryBytes_channel (i : Fin 8) : t.entryBytes 0 i.val =
    t.channels[i].map fun e => writeFields channelSpecs (e.fields i.val) := by
  simp [TableSet.entryBytes]

theorem entryBytes_velocity (i : Fin 4) : t.entryBytes 1 i.val =
    t.velocities[i].map fun v => writeFields (velocitySpecs v.points.length) (v.fields i.val) := by
  simp [TableSet.entryBytes]

theorem entryBytes_bank (i : Fin 4) : t.entryBytes 2 i.val =
    t.banks[i].map fun b => writeFields bankSpecs (b.fields i.val) := by
  simp [TableSet.entryBytes]

end

section
variable {s : State} {set kind index : Byte}

theorem readTable_range (h : readTableInRange set.toNat kind.toNat index.toNat = false) :
    s.readTable [set, kind, index] = s.answer .range :=
  if_neg (by rw [Bool.not_eq_true]; exact h)

/-- An entry asked for in range is answered with what was asked, the generation and the two marks. -/
theorem readTable_shows {entry : Option (List Byte)}
    (h : readTableInRange set.toNat kind.toNat index.toNat = true)
    (he : (if set = 0 then s.tbs.staged else s.tbs.active).entryBytes kind.toNat index.toNat =
      entry) :
    s.readTable [set, kind, index] = ⟨s, .done, [set, kind, index] ++ be 4 s.tbs.generation ++
      beBool s.tbs.activationPending ++ (beBool entry.isSome ++ entry.getD [])⟩ := by
  have asked : be 1 set.toNat ++ be 1 kind.toNat ++ be 1 index.toNat = [set, kind, index] := by
    rw [be_toNat, be_toNat, be_toNat]
    rfl
  have side : (if set.toNat = 0 then s.tbs.staged else s.tbs.active) =
      if set = 0 then s.tbs.staged else s.tbs.active :=
    if_congr (by rw [BitVec.toNat_eq]; rfl) rfl rfl
  refine (if_pos h).trans ?_
  simp only [argByte, List.getD_cons_zero, List.getD_cons_succ, side, he, asked, List.append_assoc]

end

theorem exec_readTable {s : State} {c : Command} {rest : List Command} {set kind index : Byte}
    {status : Status} {data : List Byte} (hw : s.Waits c rest) (hc : c.code = 0x06)
    (ha : c.args = [set, kind, index])
    (h : (acting rest s).readTable [set, kind, index] = ⟨acting rest s, status, data⟩) :
    exec .readTable s = .next (s.replied c rest status data) := by
  have row : c.row = .readTable := by simp [Command.row, hc]
  have three : c.args.length = 3 := by rw [ha]; rfl
  have acts : argumentsOf 3 State.readTable c (acting rest s) = ⟨acting rest s, status, data⟩ :=
    (if_pos three).trans ((congrArg (State.readTable · (acting rest s)) ha).trans h)
  exact congrArg Host.Outcome.next
    (event_answer (argumentsOf 3 State.readTable) hw row status data acts)

/-- Settles O45: the arguments are in range or not, and in range the entry's bytes follow the head of
the reply. -/
theorem readTableShowsAnEntry : Obligations.ReadTableShowsAnEntry := by
  unfold Obligations.ReadTableShowsAnEntry
  intro s c rest set kind index hw hc ha tables head shown
  have shows : ∀ entry, readTableInRange set.toNat kind.toNat index.toNat = true →
      tables.entryBytes kind.toNat index.toNat = entry → shown entry := by
    intro entry inRange he
    refine (exec_readTable hw hc ha (readTable_shows inRange he)).trans ?_
    cases entry <;> rfl
  refine ⟨fun outside => ?range, fun hs => ⟨fun i hk hi => ?channel, fun i hk hi => ?velocity,
    fun i hk hi => ?bank, fun hk => ?line⟩⟩
  case range =>
    have beyond : readTableInRange set.toNat kind.toNat index.toNat = false := by
      rw [Bool.eq_false_iff, ne_eq, readTableInRange_iff]
      bv_omega
    exact exec_readTable hw hc ha (readTable_range beyond)
  all_goals
    have inRange : readTableInRange set.toNat kind.toNat index.toNat = true := by
      rw [readTableInRange_iff]
      bv_omega
    refine shows _ inRange ?_
    rw [hk]
  case channel => rw [hi]; exact entryBytes_channel tables i
  case velocity => rw [hi]; exact entryBytes_velocity tables i
  case bank => rw [hi]; exact entryBytes_bank tables i
  case line => rfl

/-! ### The checks of ACTIVATE (R134) -/

/-- A velocity table that an entry names is not present: its identifier is none of the four, or no
table is staged under it. -/
theorem lacksVelocity_iff (t : TableSet) (i : Fin 8) : t.lacksVelocity i = true ↔
    ∃ e, enabledEntry t.channels[i] = .some e ∧
      ∀ v : Fin 4, e.velocityTable = v.val → t.velocities[v] = .none := by
  rw [TableSet.lacksVelocity, Option.any_eq_true]
  refine exists_congr fun e => and_congr_right fun _ => ?_
  by_cases named : e.velocityTable < 4
  · rw [Vector.getElem?_eq_getElem named, Option.join_some, Option.isNone_iff_eq_none]
    exact ⟨fun absent v hv => by simpa [← hv] using absent, fun h => h ⟨_, named⟩ rfl⟩
  · have unnamed (v : Fin 4) (hv : e.velocityTable = v.val) : False := named (hv ▸ v.isLt)
    simpa [named] using fun v hv => (unnamed v hv).elim

section
variable {t : TableSet}

theorem inconsistency_noLine (line : t.line = .none) : t.inconsistency = .some (1, 255) := by
  rw [TableSet.inconsistency, line]
  rfl

variable (line : t.line ≠ .none)
include line

theorem inconsistency_noChannel (off : ∀ i : Fin 8, enabledEntry t.channels[i] = .none) :
    t.inconsistency = .some (2, 255) := by
  have allOff : (allChannels.all fun c => (enabledEntry t.channels[c]).isNone) = true :=
    List.all_eq_true.mpr fun c _ => by rw [off c]; rfl
  rw [TableSet.inconsistency, if_neg (by simpa using line), if_pos allOff]

/-- With the line setup and an enabled channel present, the first channel that lacks its velocity table
is reported. -/
theorem inconsistency_eq_find (on : ∃ i : Fin 8, enabledEntry t.channels[i] ≠ .none) :
    t.inconsistency = (allChannels.find? t.lacksVelocity).map fun c => (3, c.val) := by
  obtain ⟨i, hi⟩ := on
  have someOn : ¬ (allChannels.all fun c => (enabledEntry t.channels[c]).isNone) = true :=
    fun h => hi (by simpa using List.all_eq_true.mp h i (mem_allChannels i))
  rw [TableSet.inconsistency, if_neg (by simpa using line), if_neg someOn]

theorem inconsistency_noVelocity {i : Fin 8} (lacks : t.lacksVelocity i = true)
    (first : ∀ j < i, t.lacksVelocity j = false) : t.inconsistency = .some (3, i.val) := by
  have on : ∃ i : Fin 8, enabledEntry t.channels[i] ≠ .none := by
    obtain ⟨e, he, -⟩ := (lacksVelocity_iff t i).mp lacks
    exact ⟨i, by rw [he]; exact Option.some_ne_none e⟩
  have found : allChannels.find? t.lacksVelocity = .some i := by
    rw [List.find?_eq_some_iff_append]
    refine ⟨lacks, _, _, allChannels_split i, fun j hj => ?_⟩
    have lower : j < i := by simpa using (List.mem_filter.mp hj).2
    rw [first j lower]
    rfl
  rw [inconsistency_eq_find line on, found]
  rfl

theorem inconsistency_none (on : ∃ i : Fin 8, enabledEntry t.channels[i] ≠ .none)
    (complete : ∀ i, t.lacksVelocity i = false) : t.inconsistency = .none := by
  have found : allChannels.find? t.lacksVelocity = .none :=
    List.find?_eq_none.mpr fun i _ => by rw [complete i]; exact Bool.false_ne_true
  rw [inconsistency_eq_find line on, found]
  rfl

end

/-! ### ACTIVATE that applies nothing (R134, R135) -/

section
variable {s : State}

theorem activate_busy (h : s.tbs.activationPending = true) : s.activate = s.answer .busy := if_pos h

variable (free : s.tbs.activationPending = false)
include free

theorem activate_refused {reason channel : Nat}
    (h : s.tbs.staged.inconsistency = .some (reason, channel)) : s.activate =
      ⟨s.tally fun k => { k with tbs.activationsRefused := inc32 k.tbs.activationsRefused },
        .inconsistent, be 1 reason ++ be 1 channel⟩ := by
  rw [State.activate, if_neg (by rw [free]; exact Bool.false_ne_true), h]

theorem activate_waits (sound : s.tbs.staged.inconsistency = .none) (ring : s.gauging = true) :
    s.activate =
      ⟨{ s with tbs.activationPending := true }, .done, be 1 0 ++ be 4 s.tbs.generation⟩ := by
  rw [State.activate, if_neg (by rw [free]; exact Bool.false_ne_true), sound]
  exact if_pos ring

end

theorem exec_activate {s : State} {c : Command} {rest : List Command} {a : Answer}
    (hw : s.Waits c rest) (hc : c.code = 0x07) (ha : c.args = [])
    (h : (acting rest s).activate = a) (kept : Unreported (acting rest s) a.state) :
    exec .activate s = .next (withReply c a) := by
  have row : c.row = .activate := by simp [Command.row, hc]
  have taken := event_acts (act := noArguments State.activate) hw row ((if_pos ha).trans h) kept
  exact congrArg Host.Outcome.next taken

/-- Settles O46: the checks of R134 in order, and a sound set that waits for the ring. -/
theorem activateIsCheckedAndMayWait : Obligations.ActivateIsCheckedAndMayWait := by
  unfold Obligations.ActivateIsCheckedAndMayWait
  intro s c rest hw hc ha staged on refused lacks
  have lacks_iff : ∀ i, staged.lacksVelocity i = true ↔ lacks i := lacksVelocity_iff staged
  refine ⟨fun pending => ?busy, fun idle => ?idle⟩
  case busy =>
    have waiting : (acting rest s).tbs.activationPending = true := pending
    exact exec_activate hw hc ha (activate_busy waiting) ⟨rfl, rfl, rfl⟩
  case idle =>
    have free : (acting rest s).tbs.activationPending = false := idle
    have refuses : ∀ reason channel : Nat, reason < 256 → channel < 256 →
        staged.inconsistency = .some (reason, channel) →
        refused (BitVec.ofNat 8 reason) (BitVec.ofNat 8 channel) := by
      intro reason channel hr hch fails
      refine (exec_activate hw hc ha (activate_refused free fails) ⟨rfl, rfl, rfl⟩).trans ?_
      rw [be_one hr, be_one hch]
      rfl
    refine ⟨fun line => ?_, fun line off => ?_, fun line i lack first => ?_,
      fun line enabled complete ring => ?_⟩
    · exact refuses 1 255 (by decide) (by decide) (inconsistency_noLine line)
    · exact refuses 2 255 (by decide) (by decide) (inconsistency_noChannel line off)
    · exact refuses 3 i.val (by decide) (by omega) (inconsistency_noVelocity line
        ((lacks_iff i).mpr lack) fun j hj => Bool.eq_false_iff.mpr fun h =>
          first j hj ((lacks_iff j).mp h))
    · have sound : (acting rest s).tbs.staged.inconsistency = .none :=
        inconsistency_none line enabled fun i => Bool.eq_false_iff.mpr fun h =>
          complete i ((lacks_iff i).mp h)
      have gauging : (acting rest s).gauging = true := ring
      exact exec_activate hw hc ha (activate_waits free sound gauging) ⟨rfl, rfl, rfl⟩

end Sys2Proof.Proofs
end

section
/-! PROOFS. Commands that the Command Unit answers without acting (O50): a code that names no command,
and a length that its command does not accept (R131, R180). -/

namespace Sys2Proof.Proofs

open Sys2Proof.Machine Sys2Proof.Laws

/-! ### FORMAT (section 12.5) -/

theorem noArguments_format {act : State → Answer} {c : Command} (h : (c.args.length == 0) = false)
    (s : State) : noArguments act c s = s.answer .format := by
  have carries : c.args ≠ [] := fun e => by simp [e] at h
  exact if_neg carries

theorem argumentsOf_format {n : Nat} {act : List Byte → State → Answer} {c : Command}
    (h : c.args.length ≠ n) (s : State) : argumentsOf n act c s = s.answer .format := if_neg h

theorem loadVelocity_format {c : Command}
    (h : ¬ (2 ≤ c.args.length ∧ c.args.length = 2 + 4 * argByte c.args 1)) (s : State) :
    s.loadVelocity c = s.answer .format := by
  by_cases two : 2 ≤ c.args.length
  · have misfit : c.args.length ≠ fieldsLength (velocitySpecs (argByte c.args 1)) := by
      rw [fieldsLength_velocitySpecs]
      exact fun e => h ⟨two, e⟩
    exact (if_pos two).trans (argumentsOf_format misfit s)
  · exact if_neg two

theorem readCountersCommand_format {c : Command} (h : 1 < c.args.length) (s : State) :
    s.readCountersCommand c = s.answer .format := by
  obtain ⟨tag, code, _ | ⟨a, _ | ⟨b, rest⟩⟩⟩ := c
  · cases h
  · exact absurd h (lt_irrefl 1)
  · rfl

/-- A command whose row answers without acting. -/
theorem exec_answers {s : State} {c : Command} {rest : List Command} {row : Instr} {status : Status}
    {act : Command → State → Answer} (hw : s.Waits c rest) (hr : c.row = row)
    (he : exec row s = .next (s.event (State.takeCommand row act)))
    (h : ∀ u : State, act c u = u.answer status) :
    exec c.row s = .next (s.replied c rest status []) := by
  rw [hr, he]
  exact congrArg Host.Outcome.next (event_answer act hw hr status [] (h _))

/-- A command with `n` bytes of arguments that carries another number of bytes. -/
theorem exec_misfit {s : State} {c : Command} {rest : List Command} {row : Instr} {n : Nat}
    {act : List Byte → State → Answer} (hw : s.Waits c rest) (hr : c.row = row)
    (he : exec row s = .next (s.event (State.takeCommand row (argumentsOf n act))))
    (h : (c.args.length == n) = false) :
    exec c.row s = .next (s.replied c rest .format []) :=
  exec_answers hw hr he (argumentsOf_format (by simpa using h))

/-- The codes of the commands without arguments, each with a row of its own. -/
theorem exec_row_noArguments {c : Command}
    (h : c.code.toNat ∈ [0x01, 0x07, 0x09, 0x0A, 0x0B, 0x0C, 0x0F, 0x12, 0x16]) (s : State) :
    ∃ act, exec c.row s = .next (s.event (State.takeCommand c.row (noArguments act))) := by
  simp only [List.mem_cons, List.not_mem_nil, or_false] at h
  rcases h with h | h | h | h | h | h | h | h | h
  all_goals
    simp only [Command.row, h]
    exact ⟨_, rfl⟩

/-- The codes of the commands with three bytes of arguments. -/
theorem exec_row_threeBytes {c : Command} (h : c.code.toNat ∈ [0x06, 0x10, 0x13, 0x14])
    (s : State) :
    ∃ act, exec c.row s = .next (s.event (State.takeCommand c.row (argumentsOf 3 act))) := by
  simp only [List.mem_cons, List.not_mem_nil, or_false] at h
  rcases h with h | h | h | h
  all_goals
    simp only [Command.row, h]
    exact ⟨_, rfl⟩

/-- A length that its command does not accept is answered FORMAT: the codes by the arguments they take. -/
theorem exec_misshapen {s : State} {c : Command} {rest : List Command} (hw : s.Waits c rest)
    (h : c.lengthFits = false) : exec c.row s = .next (s.replied c rest .format []) := by
  unfold Command.lengthFits at h
  dsimp only at h
  split at h
  iterate 9
    next code =>
      obtain ⟨act, he⟩ := exec_row_noArguments (c := c) (by simp [code]) s
      exact exec_answers hw rfl he (noArguments_format h)
  next code =>
    obtain ⟨full, short⟩ : c.args.length ≠ 44 ∧ c.args.length ≠ 1 := by simpa using h
    exact exec_answers (row := .loadChannel) hw (by simp [Command.row, code, short]) rfl
      (argumentsOf_format full)
  next code =>
    obtain ⟨full, short⟩ : ¬ (2 ≤ c.args.length ∧ c.args.length = 2 + 4 * argByte c.args 1) ∧
        c.args.length ≠ 1 := by simpa using h
    exact exec_answers (row := .loadVelocity) hw (by simp [Command.row, code, short]) rfl
      (loadVelocity_format full)
  next code =>
    obtain ⟨full, short⟩ : c.args.length ≠ 34 ∧ c.args.length ≠ 1 := by simpa using h
    exact exec_answers (row := .loadBank) hw (by simp [Command.row, code, short]) rfl
      (argumentsOf_format full)
  next code =>
    obtain ⟨full, short⟩ : c.args.length ≠ 20 ∧ c.args ≠ [] := by simpa using h
    exact exec_answers (row := .loadLine) hw (by simp [Command.row, code, short]) rfl
      (argumentsOf_format full)
  iterate 4
    next code =>
      obtain ⟨act, he⟩ := exec_row_threeBytes (c := c) (by simp [code]) s
      exact exec_misfit hw rfl he h
  next code => exact exec_misfit (row := .selectBank) hw (by simp [Command.row, code]) rfl h
  next code => exact exec_misfit (row := .fetchReport) hw (by simp [Command.row, code]) rfl h
  next code => exact exec_misfit (row := .releaseReport) hw (by simp [Command.row, code]) rfl h
  next code => exact exec_misfit (row := .readCapture) hw (by simp [Command.row, code]) rfl h
  next code =>
    exact exec_answers (row := .readCounters) hw (by simp [Command.row, code]) rfl
      (readCountersCommand_format (by simpa using h))
  next => cases h

/-! ### UNKNOWN (R180) -/

/-- A code that names no command is UNKNOWN_COMMAND's. -/
theorem row_unknown {c : Command} (h : c.code = 0x00 ∨ 0x16 < c.code.toNat) :
    c.row = .unknownCommand := by
  rcases h with zero | beyond
  · rw [Command.row, zero]
    rfl
  · obtain ⟨k, code⟩ : ∃ k, c.code.toNat = k + 23 := ⟨c.code.toNat - 23, by omega⟩
    rw [Command.row, code]
    rfl

/-- Settles O50: a code without a command is answered UNKNOWN, and a length without a form FORMAT. -/
theorem unknownAndMisshapenCommandsChangeNothing :
    Obligations.UnknownAndMisshapenCommandsChangeNothing := by
  unfold Obligations.UnknownAndMisshapenCommandsChangeNothing
  refine fun s c rest hw => ⟨fun unknown => ?_, exec_misshapen hw⟩
  have row := row_unknown unknown
  have answers := exec_answers (status := .unknown) hw row rfl fun _ => rfl
  rwa [row] at answers

end Sys2Proof.Proofs
end

section
/-! PROOFS. What the rules of the mode read (R144, R145): the mode, the drain timer and the park request,
whether a shell is in the ring, and whether an activation waits. -/

namespace Sys2Proof.Proofs

open Sys2Proof.Machine Sys2Proof.Laws

/-! ### What is read -/

theorem gauging_congr {s t : State} (h : t.scs.contexts = s.scs.contexts) :
    t.gauging = s.gauging := by
  have holds : t.holds Shell.inRing = s.holds Shell.inRing := by
    funext i
    rw [State.holds, h, State.holds]
  rw [State.gauging, holds, State.gauging]

/-- From `s` to `t` the mode, the park request and the presence of the drain timer stand. -/
structure SamePark (s t : State) : Prop where
  mode : t.scs.mode = s.scs.mode
  request : t.scs.parkRequest = s.scs.parkRequest
  timer : t.scs.drainTimer.isSome = s.scs.drainTimer.isSome

/-- From `s` to `t` everything stands that the rules of the mode read. -/
structure ReadsAlike (s t : State) : Prop extends SamePark s t where
  gauging : t.gauging = s.gauging
  waits : t.tbs.activationPending = s.tbs.activationPending

theorem SamePark.of_scs {s t : State} (h : t.scs = s.scs) : SamePark s t :=
  ⟨by rw [h], by rw [h], by rw [h]⟩

theorem SamePark.trans {s t u : State} (h : SamePark s t) (k : SamePark t u) : SamePark s u :=
  ⟨k.mode.trans h.mode, k.request.trans h.request, k.timer.trans h.timer⟩

theorem ReadsAlike.of_blocks {s t : State} (hs : t.scs = s.scs)
    (hp : t.tbs.activationPending = s.tbs.activationPending) : ReadsAlike s t :=
  ⟨.of_scs hs, gauging_congr (by rw [hs]), hp⟩

theorem ReadsAlike.refl (s : State) : ReadsAlike s s := .of_blocks rfl rfl

theorem ReadsAlike.trans {s t u : State} (h : ReadsAlike s t) (k : ReadsAlike t u) :
    ReadsAlike s u :=
  ⟨h.toSamePark.trans k.toSamePark, k.gauging.trans h.gauging, k.waits.trans h.waits⟩

/-- What follows a change of other blocks. -/
theorem ReadsAlike.after {s t u : State} (h : ReadsAlike t u) (hs : t.scs = s.scs)
    (hp : t.tbs.activationPending = s.tbs.activationPending) : ReadsAlike s u :=
  (ReadsAlike.of_blocks hs hp).trans h

/-! ### The two invariants -/

/-- The two ways the mode agrees with the contexts: a shell is in the ring and the mode is MEASURING, or
none is, the mode is another, and no activation waits. -/
theorem modeAgrees_iff (s : State) : s.ModeAgrees ↔
    s.gauging = true ∧ s.scs.mode = .measuring ∨
    s.gauging = false ∧ s.scs.mode ≠ .measuring ∧ s.tbs.activationPending = false := by
  unfold State.ModeAgrees
  cases s.gauging <;> simp

theorem SamePark.agrees {s t : State} (h : SamePark s t) (agrees : s.ParkAgrees) :
    t.ParkAgrees := by
  unfold State.ParkAgrees at agrees ⊢
  rwa [h.mode, h.request, h.timer]

theorem ReadsAlike.modeAgrees {s t : State} (h : ReadsAlike s t) (agrees : s.ModeAgrees) :
    t.ModeAgrees := by
  unfold State.ModeAgrees at agrees ⊢
  rwa [h.mode, h.gauging, h.waits]

/-- From `s` to `t` the two invariants of the mode are each kept. -/
structure KeepsModes (s t : State) : Prop where
  mode : s.ModeAgrees → t.ModeAgrees
  park : s.ParkAgrees → t.ParkAgrees

theorem ReadsAlike.keeps {s t : State} (h : ReadsAlike s t) : KeepsModes s t :=
  ⟨h.modeAgrees, h.toSamePark.agrees⟩

/-- A change of other blocks. -/
theorem KeepsModes.of_blocks {s t : State} (hs : t.scs = s.scs)
    (hp : t.tbs.activationPending = s.tbs.activationPending) : KeepsModes s t :=
  (ReadsAlike.of_blocks hs hp).keeps

theorem KeepsModes.refl (s : State) : KeepsModes s s := ⟨id, id⟩

theorem KeepsModes.trans {s t u : State} (h : KeepsModes s t) (k : KeepsModes t u) :
    KeepsModes s u := ⟨k.mode ∘ h.mode, k.park ∘ h.park⟩

/-- What follows a change of other blocks. -/
theorem KeepsModes.after {s t u : State} (h : KeepsModes t u) (hs : t.scs = s.scs)
    (hp : t.tbs.activationPending = s.tbs.activationPending) : KeepsModes s u :=
  (KeepsModes.of_blocks hs hp).trans h

/-- A change of mode outside MEASURING: no shell is in the ring before it, and none after. -/
theorem modeAgrees_elsewhere {s t : State} (agrees : s.ModeAgrees) (hs : s.scs.mode ≠ .measuring)
    (ht : t.scs.mode ≠ .measuring) (hc : t.scs.contexts = s.scs.contexts) (hp : t.tbs = s.tbs) :
    t.ModeAgrees := by
  rcases (modeAgrees_iff s).mp agrees with ⟨-, measuring⟩ | ⟨idle, -, free⟩
  · exact absurd measuring hs
  · exact (modeAgrees_iff t).mpr (.inr ⟨(gauging_congr hc).trans idle, ht, by rw [hp, free]⟩)

/-- With every context FREE, the mode after reset and nothing pending, both invariants hold (R144). -/
theorem KeepsModes.of_reset {s t : State} (hc : t.scs.contexts = Vector.replicate 4 .none)
    (hm : t.scs.mode = .unconfigured ∨ t.scs.mode = .standby) (hr : t.scs.parkRequest = false)
    (hd : t.scs.drainTimer = .none) (hp : t.tbs.activationPending = false) : KeepsModes s t := by
  have idle : t.gauging = false := by
    rw [← Bool.not_eq_true, gauging_iff]
    rintro ⟨i, hi⟩
    obtain ⟨sh, hsh, -⟩ := (holds_iff t _ i).mp hi
    rw [hc, Fin.getElem_fin, Vector.getElem_replicate] at hsh
    cases hsh
  refine ⟨fun _ => (modeAgrees_iff t).mpr (.inr ⟨idle, ?_, hp⟩), fun _ => ?_⟩
  · rcases hm with hm | hm <;> rw [hm] <;> decide
  · unfold State.ParkAgrees
    rw [hr, hd]
    rcases hm with hm | hm <;> rw [hm] <;> decide

/-! ### Shells that stay where they are -/

/-- A shell changed without entering or leaving the ring. -/
theorem shellAt_readsAlike {f : Shell → Shell} (h : ∀ sh, (f sh).inRing = sh.inRing) (i : Fin 4)
    (s : State) : ReadsAlike s (s.shellAt i f) := by
  have holds : ∀ j, (s.shellAt i f).holds Shell.inRing j = s.holds Shell.inRing j := by
    intro j
    unfold State.holds State.shellAt
    rw [contexts_set_get]
    split
    · next e =>
      subst e
      rw [Option.any_map]
      exact congrArg (fun p => Option.any p _) (funext h)
    · rfl
  exact ⟨⟨rfl, rfl, rfl⟩, by simp only [State.gauging, funext holds], rfl⟩

/-- A shell that is not in the ring is discarded. -/
theorem freeContext_readsAlike {i : Fin 4} {s : State} (h : s.holds Shell.inRing i = false) :
    ReadsAlike s (s.freeContext i) := by
  have holds : ∀ j, (s.freeContext i).holds Shell.inRing j = s.holds Shell.inRing j := by
    intro j
    unfold State.holds State.freeContext
    rw [contexts_set_get]
    split
    · next e =>
      subst e
      exact h.symm
    · rfl
  exact ⟨⟨rfl, rfl, rfl⟩, by simp only [State.gauging, funext holds], rfl⟩

theorem inRing_of_phase {a b : Shell} (h : b.phase = a.phase) : b.inRing = a.inRing := by
  simp only [Shell.inRing, Shell.isOpen, Shell.isClosing, h]

/-- A COMPLETE shell is not in the ring (R71). -/
theorem isComplete_inRing {sh : Shell} (h : sh.isComplete = true) : sh.inRing = false := by
  unfold Shell.isComplete at h
  split at h
  · next hp => simp only [Shell.inRing, Shell.isOpen, Shell.isClosing, hp, Bool.or_self]
  · cases h

theorem mark_inRing (sh : Shell) : sh.mark.inRing = sh.inRing := by
  unfold Shell.mark
  split
  · next hp => simp only [Shell.inRing, Shell.isOpen, Shell.isClosing, hp]
  · next hp => simp only [Shell.inRing, Shell.isOpen, Shell.isClosing, hp]
  · rfl

theorem countReject_inRing (o : ShotOutcome) (sh : Shell) :
    (sh.countReject o).inRing = sh.inRing := by
  cases o <;> rfl

theorem accept_inRing (shot : Shot) (sh : Shell) : (sh.accept shot).inRing = sh.inRing := by
  refine inRing_of_phase ?_
  rw [accept_sameButRuns shot sh]
  unfold Shell.addToMap
  split <;> rfl

end Sys2Proof.Proofs
end

section
/-! PROOFS. The events and commands that the mode does not follow: each leaves what its rules read (R144,
R145). -/

namespace Sys2Proof.Proofs

open Sys2Proof.Machine Sys2Proof.Laws

/-! ### Events and commands -/

theorem event_keepsModes {f : State → State} (h : ∀ s, KeepsModes s (f s)) (s : State) :
    KeepsModes s (s.event f) := by
  unfold State.event
  split
  · exact .refl s
  · exact (h s).trans (.of_blocks (by simp) (by simp))

theorem takeCommand_keepsModes {act : Command → State → Answer}
    (h : ∀ c s, KeepsModes s (act c s).state) (row : Instr) (s : State) :
    KeepsModes s (s.takeCommand row act) := by
  unfold State.takeCommand
  split
  · exact .refl s
  · split
    · next c rest _ _ =>
      have acted : KeepsModes s (act c { s with cmu.commands := rest }).state :=
        (h c _).after rfl rfl
      exact acted.trans (.of_blocks rfl rfl)
    · exact .refl s

theorem noArguments_keepsModes {act : State → Answer} (h : ∀ s, KeepsModes s (act s).state)
    (c : Command) (s : State) : KeepsModes s (noArguments act c s).state := by
  rcases noArguments_cases act c s with e | e <;> rw [e]
  · exact .refl s
  · exact h s

theorem argumentsOf_keepsModes {act : List Byte → State → Answer}
    (h : ∀ args s, KeepsModes s (act args s).state) (n : Nat) (c : Command) (s : State) :
    KeepsModes s (argumentsOf n act c s).state := by
  rcases argumentsOf_cases n act c s with e | e <;> rw [e]
  · exact .refl s
  · exact h _ s

theorem receive_keepsModes {owner : Frame → State → State} (h : ∀ f s, KeepsModes s (owner f s))
    (link : Link) (kind : Byte) (bytes : List Byte) (s : State) :
    KeepsModes s (s.receive link kind owner bytes) := by
  unfold State.receive
  repeat' split
  · exact .of_blocks (by simp) (by simp)
  · exact (h _ _).after rfl rfl
  · exact .refl s
  · exact .refl s

/-! ### The links -/

theorem receiveFailing_readsAlike (link : Link) (bytes : List Byte) (s : State) :
    ReadsAlike s (s.receiveFailing link bytes) := by
  unfold State.receiveFailing
  repeat' split
  all_goals exact .of_blocks (by simp) (by simp)

theorem offerRelay_readsAlike (f : Frame) (s : State) : ReadsAlike s (s.offerRelay f) := by
  unfold State.offerRelay
  split <;> exact .of_blocks rfl rfl

theorem offerRelayed_readsAlike (f : Frame) (s : State) : ReadsAlike s (s.offerRelayed f) := by
  unfold State.offerRelayed
  split <;> exact .of_blocks (by simp) (by simp)

theorem offerCommand_readsAlike (f : Frame) (s : State) : ReadsAlike s (s.offerCommand f) := by
  unfold State.offerCommand
  repeat' split
  all_goals exact .of_blocks (by simp) (by simp)

theorem loseALock_readsAlike (partly : Bool) (s : State) : ReadsAlike s (s.loseALock partly) := by
  unfold State.loseALock State.discardPartial State.changeALock
  dsimp only
  repeat' split
  all_goals exact .of_blocks (by simp) (by simp)

theorem gainALock_readsAlike (s : State) : ReadsAlike s s.gainALock := by
  unfold State.gainALock State.changeALock
  split <;> exact .of_blocks (by simp) (by simp)

theorem loseMLock_readsAlike (partly : Bool) (s : State) : ReadsAlike s (s.loseMLock partly) := by
  unfold State.loseMLock State.abortM State.discardPartial
  repeat' split
  all_goals exact .of_blocks (by simp) (by simp)

theorem gainMLock_readsAlike (s : State) : ReadsAlike s s.gainMLock := .of_blocks rfl rfl

theorem takeRequest_readsAlike (s : State) : ReadsAlike s s.takeRequest := by
  unfold State.takeRequest
  split <;> exact .of_blocks (by simp) (by simp)

theorem takeRelayed_readsAlike (s : State) : ReadsAlike s s.takeRelayed := by
  unfold State.takeRelayed
  repeat' split
  all_goals exact .of_blocks (by simp) (by simp)

theorem aReady_readsAlike {f : State → State} (h : ∀ s, ReadsAlike s (f s)) (s : State) :
    ReadsAlike s (if s.aReady then f s else s) := by
  split
  · exact h s
  · exact .refl s

theorem takeReply_readsAlike (s : State) : ReadsAlike s s.takeReply := by
  unfold State.takeReply
  repeat' split
  all_goals exact .of_blocks rfl rfl

theorem takeNotice_readsAlike (s : State) : ReadsAlike s s.takeNotice := by
  unfold State.takeNotice
  repeat' split
  all_goals exact .of_blocks rfl rfl

theorem takeReportFrame_readsAlike (s : State) : ReadsAlike s s.takeReportFrame := by
  unfold State.takeReportFrame
  repeat' split
  all_goals exact .of_blocks rfl rfl

theorem takeSample_readsAlike (s : State) : ReadsAlike s s.takeSample := by
  unfold State.takeSample
  repeat' split
  all_goals exact .of_blocks rfl rfl

theorem takeRelay_readsAlike (s : State) : ReadsAlike s s.takeRelay := by
  unfold State.takeRelay
  repeat' split
  all_goals exact .of_blocks rfl rfl

theorem takeForwarded_readsAlike (s : State) : ReadsAlike s s.takeForwarded := by
  unfold State.takeForwarded
  repeat' split
  all_goals exact .of_blocks rfl rfl

theorem endFrame_readsAlike (link : Link) (s : State) : ReadsAlike s (s.endFrame link) :=
  .of_blocks (by simp) (by simp)

/-! ### The detector and the references -/

theorem takeDetect_readsAlike (s : State) : ReadsAlike s s.takeDetect := by
  unfold State.takeDetect
  repeat' split
  all_goals exact .of_blocks (by simp) (by simp)

theorem intervalOut_readsAlike (c : Fin 8) (s : State) : ReadsAlike s (s.intervalOut c) := by
  unfold State.intervalOut
  split <;> exact .of_blocks (by simp) (by simp)

theorem requestOut_readsAlike (c : Fin 8) (s : State) : ReadsAlike s (s.requestOut c) := by
  unfold State.requestOut
  split <;> exact .of_blocks (by simp) (by simp)

/-! ### Shot records (R1) -/

theorem withMissed_inRing (gap : Nat) (sh : Shell) : (withMissed gap sh).inRing = sh.inRing := rfl

theorem finish_readsAlike (c : Fin 8) (r : ShotRecord) (o : ShotOutcome) (times : EchoTimes)
    (s : State) : ReadsAlike s (s.finish c r o times) := .of_blocks (by simp) (by simp)

theorem acceptShot_readsAlike (i : Fin 4) (sh : Shell) (e : ChannelEntry) (r : ShotRecord)
    (shot : Shot) (w : WallResult) (t : Nat) (s : State) :
    ReadsAlike s (s.acceptShot i sh e r shot w t) := by
  refine (shellAt_readsAlike (accept_inRing shot) i s).trans ?_
  unfold State.acceptShot State.raiseExcursion
  dsimp only
  repeat' split
  all_goals exact .of_blocks (by simp) (by simp)

theorem gauge_readsAlike (c : Fin 8) (e : ChannelEntry) (r : ShotRecord) (i : Fin 4)
    (position : Nat) (times : EchoTimes) (transit t : Nat) (s : State) :
    ReadsAlike s (s.gauge c e r i position times transit t) := by
  unfold State.gauge
  split
  · exact .refl s
  · dsimp only
    split
    · exact (acceptShot_readsAlike _ _ _ _ _ _ _ s).trans (finish_readsAlike _ _ _ _ _)
    · exact (shellAt_readsAlike (countReject_inRing .implausible) i s).trans
        (.of_blocks (by simp) (by simp))

theorem rejectAssigned_readsAlike (c : Fin 8) (r : ShotRecord) (i : Fin 4) (o : ShotOutcome)
    (times : EchoTimes) (s : State) : ReadsAlike s (s.rejectAssigned c r i o times) :=
  (shellAt_readsAlike (countReject_inRing o) i s).trans (finish_readsAlike _ _ _ _ _)

theorem timeAndGauge_readsAlike (c : Fin 8) (e : ChannelEntry) (r : ShotRecord) (i : Fin 4)
    (position : Nat) (s : State) : ReadsAlike s (s.timeAndGauge c e r i position) := by
  unfold State.timeAndGauge
  split
  · exact rejectAssigned_readsAlike _ _ _ _ _ s
  · dsimp only
    split
    · exact rejectAssigned_readsAlike _ _ _ _ _ s
    · exact (gauge_readsAlike _ _ _ _ _ _ _ _ _).after rfl rfl

theorem measure_readsAlike (c : Fin 8) (e : ChannelEntry) (r : ShotRecord) (gap : Nat)
    (s : State) : ReadsAlike s (s.measure c e r gap) := by
  unfold State.measure
  refine ReadsAlike.after ?_ (etuChannel_scs c (·.refreshHold r.temperature) s) rfl
  dsimp only
  split
  · exact .of_blocks (by simp) (by simp)
  · exact (shellAt_readsAlike (countReject_inRing _) _ _).trans (finish_readsAlike _ _ _ _ _)
  · exact (shellAt_readsAlike (withMissed_inRing gap) _ _).trans (timeAndGauge_readsAlike _ _ _ _ _ _)

theorem reference_readsAlike (c : Fin 8) (e : ChannelEntry) (r : ShotRecord) (s : State) :
    ReadsAlike s (s.reference c e r) := by
  refine .of_blocks (reference_scs c e r s) ?_
  unfold State.reference State.rejectReference State.acceptReference
  dsimp only
  repeat' split
  all_goals simp

/-- A shot record enters its shell at most, and moves none. -/
theorem takeRecord_readsAlike (payload : List Byte) (s : State) :
    ReadsAlike s (s.takeRecord payload) := by
  have unknown : ReadsAlike s s.dropUnknownChannel :=
    .of_blocks (by simp [State.dropUnknownChannel]) (by simp [State.dropUnknownChannel])
  have badLength : ∀ c, ReadsAlike s (s.dropBadLength c) := fun c =>
    .of_blocks (by simp [State.dropBadLength]) (by simp [State.dropBadLength])
  have forMode : ∀ c r o, ReadsAlike s (s.dropForMode c r o) := fun c r o =>
    .of_blocks (by simp [State.dropForMode]) (by simp [State.dropForMode])
  unfold State.takeRecord State.passRecord
  dsimp only
  repeat' split
  · exact unknown
  · exact badLength _
  · exact forMode _ _ _
  · exact unknown
  · exact badLength _
  · exact forMode _ _ _
  · exact (measure_readsAlike _ _ _ _ _).after rfl rfl
  · exact (reference_readsAlike _ _ _ _).after rfl rfl

/-! ### The commands -/

theorem load_readsAlike {write : List Int → State → State} (h : ∀ v s, ReadsAlike s (write v s))
    (specs : List FieldSpec) (tie : List Int → Nat → Bool) (args : List Byte) (s : State) :
    ReadsAlike s (s.load specs tie write args).state := by
  unfold State.load
  dsimp only
  repeat' split
  · exact .of_blocks rfl rfl
  · exact .of_blocks rfl rfl
  · exact (h _ s).trans (.of_blocks rfl rfl)

theorem stageChannel_readsAlike (n : Nat) (e : Option ChannelEntry) (s : State) :
    ReadsAlike s (s.stageChannel n e) := .of_blocks rfl rfl

theorem stageVelocity_readsAlike (n : Nat) (t : Option VelocityTable) (s : State) :
    ReadsAlike s (s.stageVelocity n t) := .of_blocks rfl rfl

theorem stageBank_readsAlike (n : Nat) (b : Option ProductBank) (s : State) :
    ReadsAlike s (s.stageBank n b) := .of_blocks rfl rfl

theorem stageLine_readsAlike (l : Option LineSetup) (s : State) : ReadsAlike s (s.stageLine l) :=
  .of_blocks rfl rfl

theorem loadVelocity_keepsModes (c : Command) (s : State) :
    KeepsModes s (s.loadVelocity c).state := by
  unfold State.loadVelocity
  dsimp only
  split
  · refine argumentsOf_keepsModes (fun args s => ReadsAlike.keeps ?_) _ c s
    exact load_readsAlike (fun _ _ => stageVelocity_readsAlike _ _ _) _ _ args s
  · exact .refl s

theorem loadShortForm_readsAlike (c : Command) (s : State) :
    ReadsAlike s (s.loadShortForm c).state := by
  unfold State.loadShortForm
  dsimp only
  split
  · exact load_readsAlike (fun _ _ => stageChannel_readsAlike _ _ _) _ _ _ s
  · exact load_readsAlike (fun _ _ => stageVelocity_readsAlike _ _ _) _ _ _ s
  · exact load_readsAlike (fun _ _ => stageBank_readsAlike _ _ _) _ _ _ s
  · exact load_readsAlike (fun _ _ => stageLine_readsAlike _ _) _ _ _ s

theorem readTable_readsAlike (args : List Byte) (s : State) :
    ReadsAlike s (s.readTable args).state := by
  unfold State.readTable
  dsimp only
  split <;> exact .refl s

theorem selectBank_readsAlike (args : List Byte) (s : State) :
    ReadsAlike s (s.selectBank args).state := by
  unfold State.selectBank
  split <;> exact .of_blocks rfl rfl

theorem fetchReport_readsAlike (args : List Byte) (s : State) :
    ReadsAlike s (s.fetchReport args).state := by
  unfold State.fetchReport State.startStream
  dsimp only
  repeat' split
  all_goals exact .of_blocks rfl rfl

/-- A report is released from a COMPLETE shell (R88). -/
theorem releaseReport_readsAlike (args : List Byte) (s : State) :
    ReadsAlike s (s.releaseReport args).state := by
  unfold State.releaseReport
  split
  · exact .refl s
  · split
    · next i _ h =>
      obtain ⟨sh, hi, released⟩ := (holds_iff s _ i).mp h
      obtain ⟨complete, -⟩ := Bool.and_eq_true_iff.mp released
      have outside := (holds_of_context hi _).trans (isComplete_inRing complete)
      exact (freeContext_readsAlike outside).trans (.of_blocks rfl rfl)
    · exact .refl s

theorem armCapture_readsAlike (args : List Byte) (s : State) :
    ReadsAlike s (s.armCapture args).state := by
  unfold State.armCapture
  repeat' split
  all_goals exact .of_blocks rfl rfl

theorem readCapture_readsAlike (args : List Byte) (s : State) :
    ReadsAlike s (s.readCapture args).state := by
  unfold State.readCapture
  repeat' split
  all_goals exact .refl s

/-- What every flag's change leaves, the flags one after another leave. -/
theorem flags_readsAlike {f : State → Flag → State} (h : ∀ s g, ReadsAlike s (f s g))
    (s : State) : ReadsAlike s (allFlags.foldl f s) := by
  have all : ∀ (l : List Flag) s, ReadsAlike s (l.foldl f s) := by
    intro l
    induction l with
    | nil => exact ReadsAlike.refl
    | cons g l ih => exact fun s => (h s g).trans (ih _)
  exact all allFlags s

theorem clearFlag_readsAlike (n : Nat) (s : State) (g : Flag) : ReadsAlike s (s.clearFlag n g) :=
  .of_blocks (by simp) (by simp)

theorem maskFlag_readsAlike (n : Nat) (s : State) (g : Flag) : ReadsAlike s (s.maskFlag n g) :=
  .of_blocks (by simp) (by simp)

theorem clearEvents_readsAlike (args : List Byte) (s : State) :
    ReadsAlike s (s.clearEvents args).state := by
  unfold State.clearEvents
  dsimp only
  split
  · exact flags_readsAlike (clearFlag_readsAlike (ofBytes args)) s
  · exact .refl s

theorem setEventMask_readsAlike (args : List Byte) (s : State) :
    ReadsAlike s (s.setEventMask args).state := by
  unfold State.setEventMask
  dsimp only
  split
  · dsimp only
    exact flags_readsAlike (maskFlag_readsAlike (ofBytes args)) s
  · exact .refl s

theorem readCountersCommand_readsAlike (c : Command) (s : State) :
    ReadsAlike s (s.readCountersCommand c).state := by
  have read : ∀ option, ReadsAlike s (s.readCounters option).state := by
    intro option
    unfold State.readCounters
    dsimp only
    repeat' split
    all_goals exact .of_blocks rfl rfl
  unfold State.readCountersCommand
  split
  · exact read _
  · exact read _
  · exact .refl s

/-! ### The rows -/

/-- A row that does not reach the SCS keeps the two invariants. -/
theorem exec_elsewhere_keepsModes {c : Instr} (hc : reachesScs c = false) {s t : State}
    (h : exec c s = .next t) : KeepsModes s t := by
  have event {f : State → State} (hf : ∀ s, ReadsAlike s (f s)) (s : State) :
      KeepsModes s (s.event f) := event_keepsModes (fun s => (hf s).keeps) s
  have frame {owner : Frame → State → State} (link : Link) (kind : Byte) (bytes : List Byte)
      (ho : ∀ f s, ReadsAlike s (owner f s)) :
      KeepsModes s (s.event (State.receive link kind owner bytes)) :=
    event_keepsModes (receive_keepsModes (fun f s => (ho f s).keeps) link kind bytes) s
  have command {act : Command → State → Answer} (row : Instr)
      (ha : ∀ c s, KeepsModes s (act c s).state) :
      KeepsModes s (s.event (State.takeCommand row act)) :=
    event_keepsModes (takeCommand_keepsModes ha row) s
  have plain {act : State → Answer} (row : Instr) (ha : ∀ s, ReadsAlike s (act s).state) :
      KeepsModes s (s.event (State.takeCommand row (noArguments act))) :=
    command row (noArguments_keepsModes fun s => (ha s).keeps)
  have bytes {act : List Byte → State → Answer} (row : Instr) (n : Nat)
      (ha : ∀ args s, ReadsAlike s (act args s).state) :
      KeepsModes s (s.event (State.takeCommand row (argumentsOf n act))) :=
    command row (argumentsOf_keepsModes (fun args s => (ha args s).keeps) n)
  have load {write : List Int → State → State} (row : Instr) (specs : List FieldSpec)
      (tie : List Int → Nat → Bool) (hw : ∀ v s, ReadsAlike s (write v s)) :
      KeepsModes s (s.event (State.takeCommand row
        (argumentsOf (fieldsLength specs) (State.load specs tie write)))) :=
    bytes row _ (load_readsAlike hw specs tie)
  cases c <;> cases hc <;> cases h
  case concentratorMessage => exact frame _ _ _ offerRelay_readsAlike
  case relayMessage => exact frame _ _ _ offerRelayed_readsAlike
  case commandFrame => exact frame _ _ _ offerCommand_readsAlike
  case shellDetectChange => exact (event takeDetect_readsAlike _).after rfl rfl
  case referenceIntervalExpiry channel => exact event (intervalOut_readsAlike channel) s
  case referenceTimeout channel => exact event (requestOut_readsAlike channel) s
  case aLinkLockLost partly => exact event (loseALock_readsAlike partly) s
  case aLinkLockGained => exact event gainALock_readsAlike s
  case mLinkLockLost partly => exact event (loseMLock_readsAlike partly) s
  case mLinkLockGained => exact event gainMLock_readsAlike s
  case sendReferenceRequest => exact event (aReady_readsAlike takeRequest_readsAlike) s
  case sendRelayedMessage => exact event (aReady_readsAlike takeRelayed_readsAlike) s
  case sendReply => exact event takeReply_readsAlike s
  case sendNotice => exact event takeNotice_readsAlike s
  case sendReportFrame => exact event takeReportFrame_readsAlike s
  case sendWallSample => exact event takeSample_readsAlike s
  case sendConcentratorMessage => exact event takeRelay_readsAlike s
  case sendForwardedRecord => exact event takeForwarded_readsAlike s
  case identify => exact plain _ ReadsAlike.refl
  case loadChannel => exact load _ _ _ fun _ _ => stageChannel_readsAlike _ _ _
  case loadVelocity => exact command _ loadVelocity_keepsModes
  case loadBank => exact load _ _ _ fun _ _ => stageBank_readsAlike _ _ _
  case loadLine => exact load _ _ _ fun _ _ => stageLine_readsAlike _ _
  case loadShortForm => exact command _ fun c s => (loadShortForm_readsAlike c s).keeps
  case readTable => exact bytes _ 3 readTable_readsAlike
  case selectBank => exact bytes _ 1 selectBank_readsAlike
  case fetchReport => exact bytes _ 6 fetchReport_readsAlike
  case readSnapshot => exact plain _ fun _ => .of_blocks rfl rfl
  case armCapture => exact bytes _ 3 armCapture_readsAlike
  case readCapture => exact bytes _ 2 readCapture_readsAlike
  case readEvents => exact plain _ ReadsAlike.refl
  case clearEvents => exact bytes _ 3 clearEvents_readsAlike
  case setEventMask => exact bytes _ 3 setEventMask_readsAlike
  case readCounters => exact command _ fun c s => (readCountersCommand_readsAlike c s).keeps
  case unknownCommand => exact command _ fun _ s => .refl s
  case linkFrameDiscarded link frame => exact event (receiveFailing_readsAlike link frame) s
  case frameSendComplete link => exact event (endFrame_readsAlike link) s

end Sys2Proof.Proofs
end

section
/-! PROOFS. The mode under every step (O7): a shell leaves the ring with the boundary or the head-end that
settles the mode, and the mode moves with its drain timer and its park request (R78, R84, R144 to R152).
-/

namespace Sys2Proof.Proofs

open Sys2Proof.Machine Sys2Proof.Laws

/-! ### Shells leave the ring (R79, R84) -/

/-- While a shell is in the ring the mode is MEASURING: what is kept within an event, where the last shell
may have left the ring with the mode not yet settled. -/
def RingMeasured (s : State) : Prop := s.gauging = true → s.scs.mode = .measuring

theorem ringMeasured_of_agrees {s : State} (h : s.ModeAgrees) : RingMeasured s := h.1.mpr

/-- From `s` to `t` no shell enters the ring, and the mode and its companions stand. -/
structure LeavesRing (s t : State) : Prop extends SamePark s t where
  gauging : t.gauging = true → s.gauging = true

theorem ReadsAlike.leaves {s t : State} (h : ReadsAlike s t) : LeavesRing s t :=
  ⟨h.toSamePark, fun ring => h.gauging ▸ ring⟩

theorem LeavesRing.refl (s : State) : LeavesRing s s := (ReadsAlike.refl s).leaves

theorem LeavesRing.trans {s t u : State} (h : LeavesRing s t) (k : LeavesRing t u) :
    LeavesRing s u := ⟨h.toSamePark.trans k.toSamePark, h.gauging ∘ k.gauging⟩

theorem LeavesRing.measured {s t : State} (h : LeavesRing s t) (measured : RingMeasured s) :
    RingMeasured t := fun ring => h.mode.trans (measured (h.gauging ring))

/-- A shell changed is in the ring only if it was in the ring before. -/
theorem shellAt_leavesRing {f : Shell → Shell} {i : Fin 4} {s : State}
    (h : ∀ sh, s.scs.contexts[i] = .some sh → (f sh).inRing = true → s.gauging = true) :
    LeavesRing s (s.shellAt i f) := by
  refine ⟨⟨rfl, rfl, rfl⟩, fun ring => ?_⟩
  obtain ⟨j, hj⟩ := (gauging_iff _).mp ring
  obtain ⟨b, hb, inRing⟩ := (holds_iff _ _ j).mp hj
  unfold State.shellAt at hb
  rw [contexts_set_get] at hb
  split at hb
  · obtain ⟨a, ha, rfl⟩ := Option.map_eq_some_iff.mp hb
    exact h a ha inRing
  · exact (gauging_iff s).mpr ⟨j, (holds_of_context hb _).trans inRing⟩

theorem completed_inRing {mark : Irregularity → Irregularity} {sh : Shell}
    (h : (completed mark sh).inRing = true) : sh.inRing = true := by
  unfold completed at h
  split at h
  · cases h
  · exact h

theorem complete_leavesRing (i : Fin 4) (mark : Irregularity → Irregularity) (s : State) :
    LeavesRing s (s.complete i mark) := by
  have shell : LeavesRing s (s.shellAt i (completed mark)) := shellAt_leavesRing fun sh hi ring =>
    (gauging_iff s).mpr ⟨i, (holds_of_context hi _).trans (completed_inRing ring)⟩
  have gauging := gauging_congr (congrArg Scs.contexts (complete_scs i mark s))
  exact shell.trans ⟨.of_scs (complete_scs i mark s), fun ring => gauging ▸ ring⟩

/-- An OPEN context closes, and completes at most (R79). -/
theorem enterClosing_leavesRing {i : Fin 4} {s : State} (h : s.holds Shell.isOpen i = true)
    (mark : Irregularity → Irregularity) : LeavesRing s (s.enterClosing i mark) := by
  obtain ⟨sh, hi, isOpen⟩ := (holds_iff s _ i).mp h
  have gauging : s.gauging = true :=
    (gauging_iff s).mpr ⟨i, by rw [holds_of_context hi, Shell.inRing, isOpen]; rfl⟩
  have closing : LeavesRing s (s.shellAt i (enteredClosing mark s)) :=
    shellAt_leavesRing fun _ _ _ => gauging
  unfold State.enterClosing
  dsimp only
  split
  · exact closing.trans (complete_leavesRing i id _)
  · exact closing

/-! ### The mode settles (R78, R84, R145 to R148) -/

theorem leftUnconfigured_mode {scs : Scs} (h : scs.mode ≠ .measuring) :
    (leftUnconfigured scs).mode ≠ .measuring := by
  unfold leftUnconfigured
  split
  · nofun
  · exact h

theorem applyActivation_gauging (s : State) : s.applyActivation.gauging = s.gauging :=
  gauging_congr (by simp)

theorem applyActivation_free (s : State) :
    s.applyActivation.tbs.activationPending = false := by
  rw [(applyActivation_applied s).tbs, applied_activationPending]

theorem applyActivation_measured {s : State} (h : RingMeasured s) :
    RingMeasured s.applyActivation := by
  intro ring
  rw [applyActivation_gauging] at ring
  have mode : s.scs.mode = .measuring := h ring
  rw [applyActivation_scs, leftUnconfigured, if_neg (by rw [mode]; decide)]
  exact mode

theorem applyActivation_park {s : State} (h : s.ParkAgrees) : s.applyActivation.ParkAgrees := by
  unfold State.ParkAgrees
  rw [applyActivation_scs]
  unfold leftUnconfigured
  split
  · simp
  · exact h

/-- Settling leaves MEASURING. -/
theorem settleMode_mode (s : State) : s.settleMode.scs.mode ≠ .measuring := by
  rw [settleMode_scs]
  split
  · dsimp only
    split <;> nofun
  · next h => exact h

theorem settleMode_park {s : State} (h : s.ParkAgrees) : s.settleMode.ParkAgrees := by
  have ⟨timer, _, _⟩ := h
  unfold State.ParkAgrees
  rw [settleMode_scs]
  split
  · next measuring =>
    have absent : s.scs.drainTimer.isSome = false := by
      rw [← Bool.not_eq_true, timer, measuring]
      nofun
    cases hp : s.scs.parkRequest <;> simp [absent]
  · exact h

/-- With no shell in the ring and nothing pending the settled mode agrees. -/
theorem settleMode_agrees {s : State} (idle : s.gauging = false)
    (free : s.tbs.activationPending = false) : s.settleMode.ModeAgrees :=
  (modeAgrees_iff _).mpr (.inr ⟨(gauging_congr (settleMode_contexts s)).trans idle,
    settleMode_mode s, by rw [settleMode_tbs, free]⟩)

/-- The boundary settles what a completion leaves. -/
theorem boundary_agrees {s : State} (h : RingMeasured s) : s.boundary.ModeAgrees := by
  cases ring : s.gauging with
  | true =>
    rw [boundary_gauging ring]
    exact (modeAgrees_iff s).mpr (.inl ⟨ring, h ring⟩)
  | false =>
    unfold State.boundary
    rw [if_neg (by rw [ring]; exact Bool.false_ne_true)]
    split
    · exact settleMode_agrees ((applyActivation_gauging s).trans ring) (applyActivation_free s)
    · next free => exact settleMode_agrees ring (Bool.eq_false_iff.mpr free)

theorem boundary_park {s : State} (h : s.ParkAgrees) : s.boundary.ParkAgrees := by
  unfold State.boundary
  split
  · exact h
  · refine settleMode_park ?_
    split
    · exact applyActivation_park h
    · exact h

/-- Shells leave the ring, and the boundary follows. -/
theorem LeavesRing.boundary_keepsModes {s t : State} (h : LeavesRing s t) :
    KeepsModes s t.boundary where
  mode agrees := boundary_agrees (h.measured (ringMeasured_of_agrees agrees))
  park agrees := boundary_park (h.toSamePark.agrees agrees)

/-! ### The events of a shell's end (R80 to R84) -/

theorem openContext_some {s : State} {i : Fin 4} (h : s.openContext = .some i) :
    s.holds Shell.isOpen i = true := (oldest_some h).1

theorem tailEnd_keepsModes (s : State) : KeepsModes s s.tailEnd := by
  unfold State.tailEnd
  split
  · next h => exact (enterClosing_leavesRing (openContext_some h) id).boundary_keepsModes
  · exact .of_blocks rfl rfl

theorem completeReached_keepsModes (n : Nat) (s : State) : KeepsModes s (s.completeReached n) := by
  induction n generalizing s with
  | zero => exact .refl s
  | succ n ih =>
    unfold State.completeReached
    split
    · exact .refl s
    · exact (complete_leavesRing _ id s).boundary_keepsModes.trans (ih _)

theorem dwellOut_keepsModes (i : Fin 4) (s : State) : KeepsModes s (s.dwellOut i) := by
  unfold State.dwellOut
  split
  · next h => exact (enterClosing_leavesRing h _).boundary_keepsModes
  · exact .refl s

theorem tailOut_keepsModes (i : Fin 4) (s : State) : KeepsModes s (s.tailOut i) := by
  unfold State.tailOut
  split
  · exact (complete_leavesRing i _ s).boundary_keepsModes
  · exact .refl s

theorem takePulse_keepsModes (s : State) : KeepsModes s s.takePulse := by
  unfold State.takePulse State.countEdge State.lengthAdvance
  dsimp only
  repeat' split
  · exact .refl s
  · exact (completeReached_keepsModes 4 _).after rfl rfl
  all_goals exact .of_blocks rfl rfl

/-! ### The head-end (R74 to R78) -/

theorem headStep1_leavesRing (s : State) : LeavesRing s s.headStep1 := by
  unfold State.headStep1
  split
  · next h => exact enterClosing_leavesRing (openContext_some h) _
  · exact .refl s

theorem cutTails_leavesRing (n : Nat) (s : State) : LeavesRing s (s.cutTails n) := by
  induction n generalizing s with
  | zero => exact .refl s
  | succ n ih =>
    unfold State.cutTails
    split
    · exact .refl s
    · exact (complete_leavesRing _ _ s).trans (ih _)

theorem headStep2_measured {s : State} (h : RingMeasured s) : RingMeasured s.headStep2 := by
  unfold State.headStep2
  split
  · exact applyActivation_measured ((cutTails_leavesRing 4 s).measured h)
  · exact h

theorem headStep2_park {s : State} (h : s.ParkAgrees) : s.headStep2.ParkAgrees := by
  unfold State.headStep2
  split
  · exact applyActivation_park ((cutTails_leavesRing 4 s).toSamePark.agrees h)
  · exact h

/-- Step 2 leaves nothing pending (R75). -/
theorem headStep2_free (s : State) : s.headStep2.tbs.activationPending = false := by
  unfold State.headStep2
  split
  · exact applyActivation_free _
  · next free => exact Bool.eq_false_iff.mpr free

/-- Step 3 reclaims a COMPLETE shell at most (R76). -/
theorem allocate_readsAlike (s : State) : ReadsAlike s s.allocate.2 := by
  unfold State.allocate
  split
  · exact .refl s
  · split
    · exact .refl s
    · next i h =>
      obtain ⟨sh, hi, reclaimed⟩ := (holds_iff s _ i).mp (oldest_some h).1
      obtain ⟨complete, -⟩ := Bool.and_eq_true_iff.mp reclaimed
      have outside := (holds_of_context hi _).trans (isComplete_inRing complete)
      exact (freeContext_readsAlike outside).trans (.of_blocks (by simp) (by simp))

/-- A missed head-end settles the mode when the ring is empty (R78). -/
theorem settleMissed_agrees {s : State} (h : RingMeasured s)
    (free : s.tbs.activationPending = false) : s.settleMissed.ModeAgrees := by
  unfold State.settleMissed
  split
  · next ring => exact (modeAgrees_iff s).mpr (.inl ⟨ring, h ring⟩)
  · next idle => exact settleMode_agrees (Bool.eq_false_iff.mpr idle) free

theorem settleMissed_park {s : State} (h : s.ParkAgrees) : s.settleMissed.ParkAgrees := by
  unfold State.settleMissed
  split
  · exact h
  · exact settleMode_park h

/-- The shell that is opened is in the ring (R77). -/
theorem openShell_gauging (i : Fin 4) (bank : ProductBank) (s : State) :
    (s.openShell i bank).gauging = true := by
  refine (gauging_iff _).mpr ⟨i, ?_⟩
  rw [State.holds, openShell_scs, contexts_set_get, if_pos rfl]
  rfl

/-- A shell opened is the mode MEASURING (R78, R147). -/
theorem settleOpened_agrees {s : State} (ring : s.gauging = true) : s.settleOpened.ModeAgrees := by
  have scs : s.settleOpened.scs = measuring s.scs := (settleOpened_settled s).scs
  refine (modeAgrees_iff _).mpr (.inl ⟨(gauging_congr ?_).trans ring, ?_⟩) <;> rw [scs] <;> rfl

theorem settleOpened_park (s : State) : s.settleOpened.ParkAgrees := by
  unfold State.ParkAgrees
  rw [(settleOpened_settled s).scs]
  simp [measuring]

/-- Steps 3 and 4 end in a head-end missed, or in a shell opened (R76, R77). -/
theorem headSteps34_ends (s : State) : ∃ u, ReadsAlike s u ∧
    (s.headSteps34 = u.settleMissed ∨
      ∃ i bank, s.headSteps34 = (u.openShell i bank).settleOpened) := by
  have allocated := allocate_readsAlike s
  have missed : ∀ u : State, ReadsAlike u u.missShell := fun u =>
    .of_blocks (missShell_scs u) (by simp)
  unfold State.headSteps34
  split
  · next h =>
    rw [h] at allocated
    exact ⟨_, allocated.trans (missed _), .inl rfl⟩
  · next i u h =>
    rw [h] at allocated
    split
    · exact ⟨_, allocated.trans (missed _), .inl rfl⟩
    · exact ⟨u, allocated, .inr ⟨i, _, rfl⟩⟩

theorem headSteps34_agrees {s : State} (h : RingMeasured s)
    (free : s.tbs.activationPending = false) : s.headSteps34.ModeAgrees := by
  obtain ⟨u, alike, ended | ⟨i, bank, ended⟩⟩ := headSteps34_ends s <;> rw [ended]
  · exact settleMissed_agrees (alike.leaves.measured h) (alike.waits.trans free)
  · exact settleOpened_agrees (openShell_gauging i bank u)

theorem headSteps34_park {s : State} (h : s.ParkAgrees) : s.headSteps34.ParkAgrees := by
  obtain ⟨u, alike, ended | ⟨i, bank, ended⟩⟩ := headSteps34_ends s <;> rw [ended]
  · exact settleMissed_park (alike.toSamePark.agrees h)
  · exact settleOpened_park _

theorem headEnd_keepsModes (s : State) : KeepsModes s s.headEnd := by
  unfold State.headEnd
  split
  · exact .of_blocks rfl rfl
  have first := headStep1_leavesRing s
  exact ⟨fun agrees => headSteps34_agrees
      (headStep2_measured (first.measured (ringMeasured_of_agrees agrees))) (headStep2_free _),
    fun agrees => headSteps34_park (headStep2_park (first.toSamePark.agrees agrees))⟩

theorem debounceOut_keepsModes (s : State) : KeepsModes s s.debounceOut := by
  unfold State.debounceOut State.takeChange
  split
  · dsimp only
    split
    · exact (headEnd_keepsModes _).after rfl rfl
    · exact (tailEnd_keepsModes _).after rfl rfl
  · exact .refl s

/-! ### Parking (R148 to R152) -/

/-- PARKING ends in PARKED with the park request set. -/
theorem enterParked_keepsModes {s : State} (h : s.scs.mode = .parking) :
    KeepsModes s s.enterParked where
  mode agrees := modeAgrees_elsewhere agrees (by rw [h]; nofun) (by simp) (by simp) (by simp)
  park := by
    rintro ⟨-, request, -⟩
    unfold State.ParkAgrees
    rw [enterParked_scs]
    simpa using request (.inl h)

theorem drainOut_keepsModes (s : State) : KeepsModes s s.drainOut := by
  unfold State.drainOut
  split
  · next h =>
    obtain ⟨-, parking⟩ := h
    exact (enterParked_keepsModes parking).trans (.of_blocks (by simp) (by simp))
  · exact .refl s

theorem takeDrainedReport_keepsModes (s : State) : KeepsModes s s.takeDrainedReport := by
  unfold State.takeDrainedReport
  split
  · dsimp only
    split
    · next parking =>
      refine KeepsModes.after (enterParked_keepsModes ?_) rfl rfl
      exact parking
    · exact .of_blocks rfl rfl
  · exact .refl s

/-- PARK sets the request in STANDBY with the entry into PARKING, and in MEASURING (R149). -/
theorem park_keepsModes (s : State) : KeepsModes s s.park.state := by
  unfold State.park
  split
  · exact .refl s
  · next standby =>
    rw [modeReply_state]
    refine ⟨fun agrees => modeAgrees_elsewhere agrees (by rw [standby]; nofun) (by simp) (by simp)
      (by simp), fun _ => ?_⟩
    unfold State.ParkAgrees
    simp
  · next measuring =>
    rw [modeReply_state]
    refine ⟨id, ?_⟩
    rintro ⟨timer, -, -⟩
    exact ⟨timer, fun _ => rfl, fun other => by simp [measuring] at other⟩
  · exact .refl s
  · exact .refl s

/-- A return to STANDBY clears the request; the drain timer goes, or is absent outside PARKING. -/
theorem standing_keepsModes {s t : State} (h : s.scs.mode ≠ .measuring)
    (hc : t.scs.contexts = s.scs.contexts) (hm : t.scs.mode = .standby)
    (hr : t.scs.parkRequest = false) (hd : t.scs.drainTimer = .none ∨
      s.scs.mode ≠ .parking ∧ t.scs.drainTimer = s.scs.drainTimer) (ht : t.tbs = s.tbs) :
    KeepsModes s t where
  mode agrees := modeAgrees_elsewhere agrees h (by rw [hm]; nofun) hc ht
  park := by
    rintro ⟨timer, -, -⟩
    have absent : t.scs.drainTimer.isSome = false := by
      rcases hd with gone | ⟨elsewhere, same⟩
      · rw [gone]; rfl
      · rw [same]; exact Bool.eq_false_iff.mpr fun present => elsewhere (timer.mp present)
    unfold State.ParkAgrees
    simp [absent, hm, hr]

/-- UNPARK clears the request in MEASURING, and from PARKING and PARKED returns to STANDBY (R150). -/
theorem unpark_keepsModes (s : State) : KeepsModes s s.unpark.state := by
  unfold State.unpark
  split
  · exact .refl s
  · exact .refl s
  · next measuring =>
    rw [modeReply_state]
    refine ⟨id, ?_⟩
    rintro ⟨timer, -, -⟩
    exact ⟨timer, fun other => by simp [measuring] at other, fun _ => rfl⟩
  · next parking =>
    rw [modeReply_state]
    exact standing_keepsModes (by rw [parking]; nofun) (by simp) (by simp) (by simp)
      (.inl (by simp)) (by simp)
  · next parked =>
    dsimp only
    rw [modeReply_state]
    exact standing_keepsModes (by rw [parked]; nofun) (by simp) (by simp) (by simp)
      (.inr ⟨by rw [parked]; nofun, by simp⟩) (by simp)

/-! ### ACTIVATE, the resets and the timebase -/

/-- An activation waits while a shell is in the ring, and is applied at once otherwise (R135, R145). -/
theorem activate_keepsModes (s : State) : KeepsModes s s.activate.state := by
  unfold State.activate
  split
  · exact .refl s
  · split
    · exact .of_blocks rfl rfl
    · split
      · next ring =>
        exact ⟨fun agrees => (modeAgrees_iff _).mpr (.inl ⟨ring, agrees.1.mpr ring⟩), id⟩
      · next idle =>
        refine ⟨fun agrees => (modeAgrees_iff _).mpr (.inr ⟨?_, ?_, applyActivation_free s⟩),
          applyActivation_park⟩
        · exact (applyActivation_gauging s).trans (Bool.eq_false_iff.mpr idle)
        · dsimp only
          rw [applyActivation_scs]
          exact leftUnconfigured_mode fun measuring => idle (agrees.1.mp measuring)

theorem restartCommand_keepsModes (s : State) : KeepsModes s s.restartCommand.state := by
  have scs : s.restart.scs = (afresh s).scs := by
    rw [restart_restarted, examine_scs, restarted_rest]
  have tbs : s.restart.tbs = (afresh s).tbs := by
    rw [restart_restarted, examine_tbs, restarted_rest]
  unfold State.restartCommand
  dsimp only
  refine .of_reset (by rw [scs]; rfl) ?_ (by rw [scs]; rfl) (by rw [scs]; rfl) (by rw [tbs]; rfl)
  rw [scs, afresh]
  dsimp only
  split
  · exact .inr rfl
  · exact .inl rfl

/-- A mark counts the drain timer and moves no shell. -/
theorem millisecond_readsAlike (s : State) : ReadsAlike s s.millisecond := by
  cases h : s.resetHeld with
  | true => rw [State.millisecond, if_pos h]; exact .refl s
  | false =>
    rw [millisecond_eq h]
    refine ⟨⟨rfl, rfl, Option.isSome_map⟩, ?_, rfl⟩
    have holds : ∀ i : Fin 4, (s.scs.contexts.map (Option.map Shell.mark))[i].any Shell.inRing =
        s.holds Shell.inRing i := by
      intro i
      rw [Fin.getElem_fin, Vector.getElem_map, Option.any_map]
      exact congrArg (fun p => Option.any p _) (funext mark_inRing)
    exact congrArg allContexts.any (funext holds)

/-! ### Every step -/

/-- Every row that reaches the SCS keeps the two invariants. -/
theorem exec_reaching_keepsModes {c : Instr} (hc : reachesScs c = true) {s t : State}
    (h : exec c s = .next t) : KeepsModes s t := by
  have command {act : Command → State → Answer} (row : Instr)
      (ha : ∀ c s, KeepsModes s (act c s).state) :
      KeepsModes s (s.event (State.takeCommand row act)) :=
    event_keepsModes (takeCommand_keepsModes ha row) s
  have plain {act : State → Answer} (row : Instr) (ha : ∀ s, KeepsModes s (act s).state) :
      KeepsModes s (s.event (State.takeCommand row (noArguments act))) :=
    command row (noArguments_keepsModes ha)
  cases c <;> cases hc <;> cases h
  case shotRecord frame =>
    exact event_keepsModes
      (receive_keepsModes (fun f s => (takeRecord_readsAlike f.payload s).keeps) _ _ frame) s
  case pulseEdge high => exact (event_keepsModes takePulse_keepsModes _).after rfl rfl
  case debounceExpiry => exact event_keepsModes debounceOut_keepsModes s
  case dwellLimit context => exact event_keepsModes (dwellOut_keepsModes context) s
  case tailTimeout context => exact event_keepsModes (tailOut_keepsModes context) s
  case parkDrainLimit => exact event_keepsModes drainOut_keepsModes s
  case drainedReport => exact event_keepsModes takeDrainedReport_keepsModes s
  case hardReset => exact .of_reset rfl (.inl rfl) rfl rfl rfl
  case activate => exact plain _ activate_keepsModes
  case forceHead => exact plain _ headEnd_keepsModes
  case forceTail => exact plain _ tailEnd_keepsModes
  case park => exact plain _ park_keepsModes
  case unpark => exact plain _ unpark_keepsModes
  case releaseReport =>
    exact command _ (argumentsOf_keepsModes
      (fun args s => (releaseReport_readsAlike args s).keeps) 4)
  case restart => exact plain _ restartCommand_keepsModes
  case resetRelease =>
    split
    · exact .of_reset rfl (.inl rfl) rfl rfl rfl
    · exact .refl s

theorem exec_keepsModes {c : Instr} {s t : State} (h : exec c s = .next t) : KeepsModes s t := by
  cases hc : reachesScs c with
  | false => exact exec_elsewhere_keepsModes hc h
  | true => exact exec_reaching_keepsModes hc h

theorem step_keepsModes {s t : State} (h : step s = .next t) : KeepsModes s t := by
  unfold step at h
  split at h
  · exact (exec_keepsModes h).after rfl rfl
  · split at h
    · exact exec_keepsModes h
    · cases h
      exact (millisecond_readsAlike s).keeps

/-- Settles O7: the ring empties only before a boundary or within a head-end, which settle the mode and
what waits on it, and each change of mode sets its drain timer and its park request. -/
theorem stepKeepsModeStateConsistent : Obligations.StepKeepsModeStateConsistent := by
  unfold Obligations.StepKeepsModeStateConsistent
  exact ⟨fun _ _ agrees hs => (step_keepsModes hs).mode agrees,
    fun _ _ agrees hs => (step_keepsModes hs).park agrees⟩

end Sys2Proof.Proofs
end

section
/-! PROOFS. The end of PARKING (O34): the drain limit and the drained report both enter PARKED (R151,
R152). -/

namespace Sys2Proof.Proofs

open Sys2Proof.Machine Sys2Proof.Laws

/-- What the entry into PARKED makes of a state: PARK_STATE occurs, and requests may be issued (R29, R151,
R152). -/
structure EntersParked (s t : State) : Prop where
  scs : t.scs = { s.scs with mode := .parked, drainTimer := .none }
  issues : s.OnlyIssues t
  parkState : t.flag .parkState = (s.flag .parkState).occur .none
  flag : ∀ g, g ≠ .parkState → t.flag g = s.flag g
  sending : t.ali.sending = s.ali.sending
  inLock : t.ali.inLock = s.ali.inLock
  drainReports : t.rfs.drainReports = s.rfs.drainReports
  etu : t.etu = s.etu
  tru : t.tru = s.tru
  tbs : t.tbs = s.tbs
  outside : s.SameOutside t

/-- The examination in the new mode issues at most, and the occurrence follows it. -/
theorem enterParked_entersParked (s : State) : EntersParked s s.enterParked := by
  have examined := examine_examined ({ s with scs.drainTimer := .none, scs.mode := .parked } : State)
  unfold State.enterParked State.toMode
  generalize State.examine _ = u at examined ⊢
  obtain ⟨evu, etu, tru, scs, tbs, outside⟩ := examined.blocks
  obtain ⟨l, queue, -⟩ := examined.queue
  have flag : ∀ g, u.flag g = s.flag g := flag_congr (congrArg Evu.flags evu)
  constructor
  case scs => rw [raise_scs, scs]
  case issues =>
    intro c
    rw [raise_rfs]
    exact examined.issues c
  case parkState => rw [raise_flag_same, flag]
  case flag => exact fun g hg => (raise_flag_other hg _ _).trans (flag g)
  case sending => rw [raise_ali, queue]
  case inLock => rw [raise_ali, queue]
  case drainReports => rw [raise_rfs, examined.drainReports]
  case etu => rw [raise_etu, etu]
  case tru => rw [raise_tru, tru]
  case tbs => rw [raise_tbs, tbs]
  case outside =>
    unfold State.SameOutside at outside ⊢
    simpa using outside

section
variable {s : State} (hr : s.resetHeld = false)
include hr

/-- The drain limit ends in PARKED with PARK_INCOMPLETE (R152). -/
theorem exec_parkDrainLimit {n : Nat} (timer : s.scs.drainTimer = .some n)
    (parking : s.scs.mode = .parking) :
    exec .parkDrainLimit s = .next (s.enterParked.raise .parkIncomplete .none) := by
  have present : s.scs.drainTimer.isSome = true ∧ s.scs.mode = .parking :=
    ⟨by rw [timer]; rfl, parking⟩
  show Host.Outcome.next (s.event _) = _
  rw [event_live hr, State.drainOut, if_pos present, reportDrained_elsewhere]
  simp

/-- A drained report taken in PARKING ends it (R151). -/
theorem exec_drainedReport_parking (counted : 0 < s.rfs.drainReports)
    (parking : s.scs.mode = .parking) : exec .drainedReport s =
      .next ({ s with rfs.drainReports := s.rfs.drainReports - 1 } : State).enterParked := by
  show Host.Outcome.next (s.event _) = _
  rw [event_live hr, State.takeDrainedReport, if_pos counted]
  dsimp only
  rw [if_pos parking, reportDrained_elsewhere]
  simp

/-- In another mode a drained report is disregarded (R151). -/
theorem exec_drainedReport_elsewhere (counted : 0 < s.rfs.drainReports)
    (elsewhere : s.scs.mode ≠ .parking) : exec .drainedReport s =
      .next { s with rfs.drainReports := s.rfs.drainReports - 1 } := by
  show Host.Outcome.next (s.event _) = _
  rw [event_live hr, State.takeDrainedReport, if_pos counted]
  dsimp only
  rw [if_neg elsewhere]
  exact congrArg _ (reportDrained_elsewhere elsewhere)

end

/-- Settles O34: both occurrences enter PARKED, and the drain limit raises PARK_INCOMPLETE after it. -/
theorem parkingEndsInParked : Obligations.ParkingEndsInParked := by
  unfold Obligations.ParkingEndsInParked
  intro s hr parked
  refine ⟨fun n timer parking => ?_, fun counted => ⟨fun parking => ?_,
    exec_drainedReport_elsewhere hr counted⟩⟩
  · have entered := enterParked_entersParked s
    refine ⟨_, exec_parkDrainLimit hr timer parking, ⟨?_, ?_, ?_, fun g hp hi => ?_, ?_, ?_, ?_, ?_,
      ?_, ?_⟩, ?_, ?_⟩
    · rw [raise_scs, entered.scs]
    · intro c
      rw [raise_rfs]
      exact entered.issues c
    · rw [raise_flag_other (by decide), entered.parkState]
    · rw [raise_flag_other hi, entered.flag g hp]
    · rw [raise_ali, entered.sending]
    · rw [raise_ali, entered.inLock]
    · rw [raise_etu, entered.etu]
    · rw [raise_tru, entered.tru]
    · rw [raise_tbs, entered.tbs]
    · simp [State.SameOutside]
    · rw [raise_flag_same, entered.flag _ (by decide)]
    · rw [raise_rfs, entered.drainReports]
  · refine ⟨_, exec_drainedReport_parking hr counted parking, ?_⟩
    have entered := enterParked_entersParked
      ({ s with rfs.drainReports := s.rfs.drainReports - 1 } : State)
    generalize State.enterParked _ = t at entered ⊢
    exact ⟨⟨entered.scs, entered.issues, entered.parkState, fun g hp _ => entered.flag g hp,
      entered.sending, entered.inLock, entered.etu, entered.tru, entered.tbs, entered.outside⟩,
      entered.flag _ (by decide), entered.drainReports⟩

end Sys2Proof.Proofs
end

section
/-! PROOFS. What an event makes of the queues (O4), said once: a relation between the state before
and the state after under which every queue stays within its capacity (R156, R167, R176 to R178,
R180). The Event Unit, the Reference Scheduler and the application of the staged set. -/

namespace Sys2Proof.Proofs

open Sys2Proof.Machine Sys2Proof.Laws

/-! ### Every queue within its capacity -/

/-- From `s` to `t` each queue that was within its capacity still is, and the reply queue has not
grown, so that the reply of the command that made the change finds its place (R180). -/
structure Fits (s t : State) : Prop where
  commands : s.cmu.commands.length ≤ Config.commandPlaces →
    t.cmu.commands.length ≤ Config.commandPlaces
  replies : t.cmu.replies.length ≤ s.cmu.replies.length
  aOut : s.ali.outQueue.length ≤ Config.aOutPlaces →
    t.ali.outQueue.length ≤ Config.aOutPlaces
  relay : s.mli.relayQueue.length ≤ Config.relayPlaces →
    t.mli.relayQueue.length ≤ Config.relayPlaces
  forward : s.mli.forwardQueue.length ≤ Config.forwardPlaces →
    t.mli.forwardQueue.length ≤ Config.forwardPlaces
  live : s.ldu.liveQueue.length ≤ Config.livePlaces →
    t.ldu.liveQueue.length ≤ Config.livePlaces
  urgent : s.evu.urgent.length ≤ Config.noticePlaces →
    t.evu.urgent.length ≤ Config.noticePlaces
  routine : s.evu.routine.length ≤ Config.noticePlaces →
    t.evu.routine.length ≤ Config.noticePlaces

theorem Fits.queuesFit {s t : State} (h : Fits s t) (fit : s.QueuesFit) : t.QueuesFit := by
  obtain ⟨commands, replies, aOut, relay, forward, live, urgent, routine⟩ := fit
  exact ⟨h.commands commands, h.replies.trans replies, h.aOut aOut, h.relay relay,
    h.forward forward, h.live live, h.urgent urgent, h.routine routine⟩

theorem Fits.refl (s : State) : Fits s s := ⟨id, le_rfl, id, id, id, id, id, id⟩

theorem Fits.trans {s t u : State} (a : Fits s t) (b : Fits t u) : Fits s u where
  commands := b.commands ∘ a.commands
  replies := b.replies.trans a.replies
  aOut := b.aOut ∘ a.aOut
  relay := b.relay ∘ a.relay
  forward := b.forward ∘ a.forward
  live := b.live ∘ a.live
  urgent := b.urgent ∘ a.urgent
  routine := b.routine ∘ a.routine

/-- The blocks that hold the queues stand as they were. -/
theorem Fits.of_same {s t : State} (cmu : t.cmu = s.cmu) (aOut : t.ali.outQueue = s.ali.outQueue)
    (mli : t.mli = s.mli) (live : t.ldu.liveQueue = s.ldu.liveQueue) (evu : t.evu = s.evu) :
    Fits s t := by
  constructor
  all_goals simp only [cmu, aOut, mli, live, evu, imp_self, le_refl]

/-- What follows a change that touches no queue. -/
theorem Fits.after {s t u : State} (h : Fits t u) (cmu : t.cmu = s.cmu)
    (aOut : t.ali.outQueue = s.ali.outQueue) (mli : t.mli = s.mli)
    (live : t.ldu.liveQueue = s.ldu.liveQueue) (evu : t.evu = s.evu) : Fits s u :=
  (Fits.of_same cmu aOut mli live evu).trans h

/-- A reset leaves no reply, and whatever waited before it every queue fits after it. -/
theorem Fits.of_reset {s t : State} (replies : t.cmu.replies = []) (fit : t.QueuesFit) :
    Fits s t := by
  obtain ⟨commands, -, aOut, relay, forward, live, urgent, routine⟩ := fit
  exact ⟨fun _ => commands, by simp [replies], fun _ => aOut, fun _ => relay, fun _ => forward,
    fun _ => live, fun _ => urgent, fun _ => routine⟩

theorem foldl_fits {α : Type} {f : State → α → State} (h : ∀ s a, Fits s (f s a)) (l : List α)
    (s : State) : Fits s (l.foldl f s) := by
  induction l generalizing s with
  | nil => exact .refl s
  | cons a l ih => exact (h s a).trans (ih _)

theorem forChannels_fits {f : Fin 8 → State → State} (h : ∀ c s, Fits s (f c s)) (s : State) :
    Fits s (forChannels f s) :=
  foldl_fits (fun s c => h c s) allChannels s

/-- A queue that takes an item offered to it had a place for it. -/
theorem offer_length {α : Type} {places : Nat} {x : α} {q q' : List α}
    (h : offer places x q = .some q') : q'.length ≤ places := by
  obtain ⟨free, rfl⟩ := offer_some h
  rw [List.length_append]
  exact free

/-- A queue whose first item leaves stays within its capacity. -/
theorem tail_length {α : Type} {places : Nat} {x : α} {q rest : List α} (h : q = x :: rest)
    (fit : q.length ≤ places) : rest.length ≤ places := by
  subst h
  exact (Nat.le_succ _).trans fit

/-! ### The Event Unit (R166, R167) -/

theorem offerNotice_fits (n : Notice) (s : State) : Fits s (s.offerNotice n) := by
  unfold State.offerNotice
  split
  · split
    · next h => exact { Fits.refl s with urgent := fun _ => offer_length h }
    · exact .of_same rfl rfl rfl rfl rfl
  · split
    · next h => exact { Fits.refl s with routine := fun _ => offer_length h }
    · exact .of_same rfl rfl rfl rfl rfl

theorem setFlag_fits (f : Flag) (v : FlagState) (s : State) : Fits s (s.setFlag f v) :=
  { Fits.refl s with }

theorem raise_fits (f : Flag) (q : Option Nat) (s : State) : Fits s (s.raise f q) := by
  have flagged := setFlag_fits f ((s.flag f).occur q) s
  unfold State.raise
  dsimp only
  split
  · exact flagged.trans (offerNotice_fits _ _)
  · exact flagged

theorem clearFlag_fits (n : Nat) (s : State) (f : Flag) : Fits s (s.clearFlag n f) := by
  unfold State.clearFlag
  split
  · exact setFlag_fits _ _ s
  · exact .refl s

theorem maskFlag_fits (n : Nat) (s : State) (f : Flag) : Fits s (s.maskFlag n f) := by
  unfold State.maskFlag
  dsimp only
  split
  · exact (setFlag_fits _ _ s).trans (offerNotice_fits _ _)
  · exact setFlag_fits _ _ s

theorem tally_fits (f : Counters → Counters) (s : State) : Fits s (s.tally f) :=
  .of_same rfl rfl rfl rfl rfl

theorem tallyChannel_fits (c : Fin 8) (f : ChannelCounters → ChannelCounters) (s : State) :
    Fits s (s.tallyChannel c f) := .of_same rfl rfl rfl rfl rfl

theorem discardFrame_fits (link : Link) (step : FrameStep) (s : State) :
    Fits s (s.discardFrame link step) :=
  (tally_fits _ s).trans (raise_fits _ _ _)

/-! ### The Reference Scheduler (R29, R30, R36) -/

theorem setBacklog_fits (c : Fin 8) (n : Nat) (s : State) : Fits s (s.setBacklog c n) := by
  unfold State.setBacklog
  dsimp only
  split
  · exact (raise_fits _ _ _).after rfl rfl rfl rfl rfl
  · exact .of_same rfl rfl rfl rfl rfl

theorem rfsChannel_fits (c : Fin 8) (f : RfsChannel → RfsChannel) (s : State) :
    Fits s (s.rfsChannel c f) := .of_same rfl rfl rfl rfl rfl

theorem dropRequest_fits (c : Fin 8) (s : State) : Fits s (s.dropRequest c) :=
  .of_same rfl rfl rfl rfl rfl

theorem reloadInterval_fits (c : Fin 8) (s : State) : Fits s (s.reloadInterval c) :=
  .of_same rfl rfl rfl rfl rfl

/-- A request is issued only while the A-out queue holds fewer than 8 (R29). -/
theorem examine_fits (s : State) : Fits s s.examine := by
  rw [examine_eq]
  refine forChannels_fits (fun c t => ?_) s
  unfold examineOne
  split
  · next issued =>
    obtain ⟨-, -, -, -, free⟩ := mayIssue_request issued
    have joined : (t.issue c).ali.outQueue.length ≤ Config.aOutPlaces := by
      show (t.ali.outQueue ++ [AOut.request c t.rfs.tagCounter]).length ≤ _
      rw [List.length_append]
      exact free
    exact { Fits.refl t with aOut := fun _ => joined }
  · exact .refl t

theorem toMode_fits (m : Mode) (s : State) : Fits s (s.toMode m) :=
  (examine_fits _).after rfl rfl rfl rfl rfl

/-- A cancellation withdraws at most a frame. -/
theorem cancel_fits (c : Fin 8) (s : State) : Fits s (s.cancel c) := by
  unfold State.cancel
  split
  · exact .refl s
  · dsimp only
    split
    · exact { Fits.refl s with aOut := (List.length_eraseP_le).trans }
    · exact .of_same rfl rfl rfl rfl rfl

theorem leaveParked_fits (s : State) : Fits s s.leaveParked := by
  unfold State.leaveParked
  split
  · exact .refl s
  · refine forChannels_fits (fun c t => ?_) s
    split
    · exact (setBacklog_fits _ _ t).trans (reloadInterval_fits _ _)
    · exact .refl t

theorem reloadStopped_fits (ran : Bool) (s : State) : Fits s (s.reloadStopped ran) := by
  unfold State.reloadStopped
  split
  · exact .refl s
  · refine forChannels_fits (fun c t => ?_) s
    split
    · exact reloadInterval_fits c t
    · exact .refl t

/-! ### The application of the staged set (R137) -/

theorem applyReferenceChange_fits (c : Fin 8) (change : SlotChange) (s : State) :
    Fits s (s.applyReferenceChange c change) := by
  rw [applyReferenceChange_eq]
  split
  · exact (cancel_fits c s).trans (rfsChannel_fits _ _ _)
  · exact rfsChannel_fits _ _ s

theorem leaveUnconfigured_fits (s : State) : Fits s s.leaveUnconfigured := by
  unfold State.leaveUnconfigured
  split
  · exact (toMode_fits _ _).after rfl rfl rfl rfl rfl
  · exact .refl s

theorem applyActivation_fits (s : State) : Fits s s.applyActivation := by
  have applied : Fits s (followed s) :=
    (forChannels_fits (fun c t => applyReferenceChange_fits c _ t) _).after (by simp) (by simp)
      (by simp) (by simp) (by simp)
  have detector : Fits (followed s).examine
      ((followed s).examine.applyDetectorChange s.tbs.active.line) :=
    .of_same (by simp) (by simp) (by simp) (by simp) (by simp)
  rw [applyActivation_eq]
  exact applied.trans ((examine_fits _).trans (detector.trans
    ((leaveUnconfigured_fits _).trans ((raise_fits _ _ _).trans (tally_fits _ _)))))

end Sys2Proof.Proofs
end

section
/-! PROOFS. What an event makes of the queues (O4): the shells, the lines, the shot records and the
two links. -/

namespace Sys2Proof.Proofs

open Sys2Proof.Machine Sys2Proof.Laws

/-! ### The mode (chapter 9) -/

theorem enterParking_fits (s : State) : Fits s s.enterParking :=
  (toMode_fits _ _).after rfl rfl rfl rfl rfl

theorem enterParked_fits (s : State) : Fits s s.enterParked :=
  ((toMode_fits _ _).trans (raise_fits _ _ _)).after rfl rfl rfl rfl rfl

theorem settleMode_fits (s : State) : Fits s s.settleMode := by
  unfold State.settleMode
  repeat' split
  · exact enterParking_fits s
  · exact toMode_fits _ s
  · exact .refl s

/-! ### Closing and completion (R79 to R84) -/

theorem shellAt_fits (i : Fin 4) (f : Shell → Shell) (s : State) : Fits s (s.shellAt i f) :=
  .of_same rfl rfl rfl rfl rfl

theorem complete_fits (i : Fin 4) (mark : Irregularity → Irregularity) (s : State) :
    Fits s (s.complete i mark) := by
  unfold State.complete
  split
  · exact .refl s
  · split
    · dsimp only
      split
      · exact ((raise_fits _ _ _).trans (raise_fits _ _ _)).after rfl rfl rfl rfl rfl
      · exact (raise_fits _ _ _).after rfl rfl rfl rfl rfl
    · exact .refl s

theorem enterClosing_fits (i : Fin 4) (mark : Irregularity → Irregularity) (s : State) :
    Fits s (s.enterClosing i mark) := by
  unfold State.enterClosing
  dsimp only
  split
  · exact (shellAt_fits _ _ _).trans (complete_fits _ _ _)
  · exact shellAt_fits _ _ _

theorem boundary_fits (s : State) : Fits s s.boundary := by
  unfold State.boundary
  split
  · exact .refl s
  · refine Fits.trans ?_ (settleMode_fits _)
    split
    · exact applyActivation_fits s
    · exact .refl s

theorem tailEnd_fits (s : State) : Fits s s.tailEnd := by
  unfold State.tailEnd
  split
  · exact (enterClosing_fits _ _ _).trans (boundary_fits _)
  · exact tally_fits _ s

theorem completeReached_fits (n : Nat) (s : State) : Fits s (s.completeReached n) := by
  induction n generalizing s with
  | zero => exact .refl s
  | succ n ih =>
    unfold State.completeReached
    split
    · exact .refl s
    · exact (complete_fits _ _ _).trans ((boundary_fits _).trans (ih _))

theorem dwellOut_fits (i : Fin 4) (s : State) : Fits s (s.dwellOut i) := by
  unfold State.dwellOut
  split
  · exact (enterClosing_fits _ _ _).trans (boundary_fits _)
  · exact .refl s

theorem tailOut_fits (i : Fin 4) (s : State) : Fits s (s.tailOut i) := by
  unfold State.tailOut
  split
  · exact (complete_fits _ _ _).trans (boundary_fits _)
  · exact .refl s

theorem drainOut_fits (s : State) : Fits s s.drainOut := by
  unfold State.drainOut
  split
  · exact (enterParked_fits s).trans (raise_fits _ _ _)
  · exact .refl s

theorem takeDrainedReport_fits (s : State) : Fits s s.takeDrainedReport := by
  unfold State.takeDrainedReport
  split
  · dsimp only
    split
    · exact (enterParked_fits _).after rfl rfl rfl rfl rfl
    · exact .of_same rfl rfl rfl rfl rfl
  · exact .refl s

/-! ### The head-end (R74 to R78) -/

theorem headStep1_fits (s : State) : Fits s s.headStep1 := by
  unfold State.headStep1
  split
  · exact enterClosing_fits _ _ _
  · exact .refl s

theorem cutTails_fits (n : Nat) (s : State) : Fits s (s.cutTails n) := by
  induction n generalizing s with
  | zero => exact .refl s
  | succ n ih =>
    unfold State.cutTails
    split
    · exact .refl s
    · exact (complete_fits _ _ _).trans (ih _)

theorem headStep2_fits (s : State) : Fits s s.headStep2 := by
  unfold State.headStep2
  split
  · exact (cutTails_fits _ _).trans (applyActivation_fits _)
  · exact .refl s

theorem freeContext_fits (i : Fin 4) (s : State) : Fits s (s.freeContext i) :=
  .of_same rfl rfl rfl rfl rfl

theorem allocate_fits (s : State) : Fits s s.allocate.2 := by
  unfold State.allocate
  split
  · exact .refl s
  · split
    · exact .refl s
    · dsimp only
      exact (freeContext_fits _ s).trans ((raise_fits _ _ _).trans (tally_fits _ _))

theorem missShell_fits (s : State) : Fits s s.missShell :=
  (raise_fits _ _ s).trans (tally_fits _ _)

theorem missed_fits (s : State) : Fits s s.missShell.settleMissed := by
  refine (missShell_fits s).trans ?_
  unfold State.settleMissed
  split
  · exact .refl _
  · exact settleMode_fits _

theorem openShell_fits (i : Fin 4) (bank : ProductBank) (s : State) :
    Fits s (s.openShell i bank) := by
  unfold State.openShell
  exact ((raise_fits _ _ _).trans (tally_fits _ _)).after rfl rfl rfl rfl rfl

theorem settleOpened_fits (s : State) : Fits s s.settleOpened := by
  unfold State.settleOpened
  dsimp only
  split
  · exact .of_same rfl rfl rfl rfl rfl
  · exact ((raise_fits _ _ _).trans ((leaveParked_fits _).trans (examine_fits _))).after
      rfl rfl rfl rfl rfl
  · exact (examine_fits _).after rfl rfl rfl rfl rfl

theorem headSteps34_fits (s : State) : Fits s s.headSteps34 := by
  have allocated := allocate_fits s
  unfold State.headSteps34
  split
  · next none =>
    rw [none] at allocated
    exact allocated.trans (missed_fits _)
  · next context =>
    rw [context] at allocated
    refine allocated.trans ?_
    split
    · exact missed_fits _
    · exact (openShell_fits _ _ _).trans (settleOpened_fits _)

theorem headEnd_fits (s : State) : Fits s s.headEnd := by
  unfold State.headEnd
  split
  · exact tally_fits _ s
  · exact (headStep1_fits s).trans ((headStep2_fits _).trans (headSteps34_fits _))

/-! ### The lines (chapter 4) -/

theorem takePulse_fits (s : State) : Fits s s.takePulse := by
  unfold State.takePulse
  dsimp only
  split
  · exact .refl s
  · split
    · split
      · unfold State.countEdge State.lengthAdvance
        dsimp only
        split
        · exact (completeReached_fits _ _).after rfl rfl rfl rfl rfl
        · exact .of_same rfl rfl rfl rfl rfl
      · exact .of_same rfl rfl rfl rfl rfl
    · exact .of_same rfl rfl rfl rfl rfl

theorem takeDetect_fits (s : State) : Fits s s.takeDetect := by
  unfold State.takeDetect
  repeat' split
  · exact .of_same rfl rfl rfl rfl rfl
  · exact .refl s
  · exact .of_same (by simp) (by simp) (by simp) (by simp) (by simp)

theorem debounceOut_fits (s : State) : Fits s s.debounceOut := by
  unfold State.debounceOut State.takeChange
  split
  · dsimp only
    split
    · exact (headEnd_fits _).after rfl rfl rfl rfl rfl
    · exact (tailEnd_fits _).after rfl rfl rfl rfl rfl
  · exact .refl s

/-! ### The references (R27, R33 to R35) -/

theorem intervalOut_fits (c : Fin 8) (s : State) : Fits s (s.intervalOut c) := by
  unfold State.intervalOut
  split
  · exact (reloadInterval_fits c s).trans ((setBacklog_fits _ _ _).trans (examine_fits _))
  · exact .refl s

theorem requestOut_fits (c : Fin 8) (s : State) : Fits s (s.requestOut c) := by
  unfold State.requestOut
  split
  · exact (dropRequest_fits c s).trans ((raise_fits _ _ _).trans
      ((tallyChannel_fits _ _ _).trans (examine_fits _)))
  · exact .refl s

/-! ### Shot records (R1) -/

/-- Live data drops a wall sample that finds 64 waiting (R156). -/
theorem offerSample_fits (w : WallSample) (s : State) : Fits s (s.offerSample w) := by
  unfold State.offerSample
  split
  · next h => exact { Fits.refl s with live := fun _ => offer_length h }
  · exact (tally_fits _ s).trans (raise_fits _ _ _)

theorem offerCapture_fits (c : Fin 8) (r : ShotRecord) (o : ShotOutcome) (times : EchoTimes)
    (s : State) : Fits s (s.offerCapture c r o times) := by
  unfold State.offerCapture
  repeat' split
  · exact (raise_fits _ _ _).after rfl rfl rfl rfl rfl
  · exact .refl s
  · exact .refl s

/-- A copy that finds 16 waiting is dropped (R178). -/
theorem offerForward_fits (c : Fin 8) (r : ShotRecord) (o : ShotOutcome) (s : State) :
    Fits s (s.offerForward c r o) := by
  unfold State.offerForward
  repeat' split
  · next h => exact { Fits.refl s with forward := fun _ => offer_length h }
  · exact tally_fits _ s
  · exact .refl s

theorem finish_fits (c : Fin 8) (r : ShotRecord) (o : ShotOutcome) (times : EchoTimes) (s : State) :
    Fits s (s.finish c r o times) :=
  ((offerCapture_fits _ _ _ _ _).trans (offerForward_fits _ _ _ _)).after rfl rfl rfl rfl rfl

theorem takeWall_fits (c : Fin 8) (wCold : Nat) (s : State) : Fits s (s.takeWall c wCold) :=
  .of_same rfl rfl rfl rfl rfl

theorem acceptShot_fits (i : Fin 4) (sh : Shell) (e : ChannelEntry) (r : ShotRecord) (shot : Shot)
    (w : WallResult) (t : Nat) (s : State) : Fits s (s.acceptShot i sh e r shot w t) := by
  have listed : Fits s ((s.shellAt i (Shell.accept shot)).raiseExcursion sh (sh.accept shot)) := by
    unfold State.raiseExcursion
    split
    · exact (shellAt_fits _ _ s).trans (raise_fits _ _ _)
    · exact shellAt_fits _ _ s
  unfold State.acceptShot
  dsimp only
  refine listed.trans ?_
  split
  · exact (takeWall_fits _ _ _).trans (offerSample_fits _ _)
  · exact takeWall_fits _ _ _

theorem gauge_fits (c : Fin 8) (e : ChannelEntry) (r : ShotRecord) (i : Fin 4) (position : Nat)
    (times : EchoTimes) (transit t : Nat) (s : State) :
    Fits s (s.gauge c e r i position times transit t) := by
  unfold State.gauge
  split
  · exact .refl s
  · dsimp only
    split
    · exact (acceptShot_fits _ _ _ _ _ _ _ s).trans (finish_fits _ _ _ _ _)
    · exact (finish_fits _ _ _ _ _).after rfl rfl rfl rfl rfl

theorem rejectAssigned_fits (c : Fin 8) (r : ShotRecord) (i : Fin 4) (o : ShotOutcome)
    (times : EchoTimes) (s : State) : Fits s (s.rejectAssigned c r i o times) :=
  (shellAt_fits _ _ s).trans (finish_fits _ _ _ _ _)

theorem timeAndGauge_fits (c : Fin 8) (e : ChannelEntry) (r : ShotRecord) (i : Fin 4)
    (position : Nat) (s : State) : Fits s (s.timeAndGauge c e r i position) := by
  unfold State.timeAndGauge
  split
  · exact rejectAssigned_fits _ _ _ _ _ s
  · dsimp only
    split
    · exact rejectAssigned_fits _ _ _ _ _ s
    · exact (gauge_fits _ _ _ _ _ _ _ _ _).after rfl rfl rfl rfl rfl

theorem measure_fits (c : Fin 8) (e : ChannelEntry) (r : ShotRecord) (gap : Nat) (s : State) :
    Fits s (s.measure c e r gap) := by
  unfold State.measure
  dsimp only
  split
  · exact (finish_fits _ _ _ _ _).after rfl rfl rfl rfl rfl
  · exact (finish_fits _ _ _ _ _).after rfl rfl rfl rfl rfl
  · exact (timeAndGauge_fits _ _ _ _ _ _).after rfl rfl rfl rfl rfl

theorem rejectReference_fits (c : Fin 8) (r : ShotRecord) (o : ShotOutcome) (times : EchoTimes)
    (s : State) : Fits s (s.rejectReference c r o times) :=
  (dropRequest_fits c s).trans ((raise_fits _ _ _).trans ((tallyChannel_fits _ _ _).trans
    ((finish_fits _ _ _ _ _).trans (examine_fits _))))

theorem acceptReference_fits (c : Fin 8) (r : ShotRecord) (times : EchoTimes) (transit : Nat)
    (s : State) : Fits s (s.acceptReference c r times transit) := by
  rw [acceptReference_eq]
  exact ((finish_fits _ _ _ _ _).trans (examine_fits _)).after rfl rfl rfl rfl rfl

theorem reference_fits (c : Fin 8) (e : ChannelEntry) (r : ShotRecord) (s : State) :
    Fits s (s.reference c e r) := by
  unfold State.reference
  split
  · split
    · exact rejectReference_fits _ _ _ _ s
    · dsimp only
      split
      · exact acceptReference_fits _ _ _ _ s
      · exact rejectReference_fits _ _ _ _ s
  · exact (finish_fits _ _ _ _ _).after rfl rfl rfl rfl rfl

theorem passRecord_fits (c : Fin 8) (e : ChannelEntry) (r : ShotRecord) (s : State) :
    Fits s (s.passRecord c e r) := by
  unfold State.passRecord
  dsimp only
  split
  · exact (measure_fits _ _ _ _ _).after rfl rfl rfl rfl rfl
  · exact (reference_fits _ _ _ _).after rfl rfl rfl rfl rfl

theorem takeRecord_fits (payload : List Byte) (s : State) : Fits s (s.takeRecord payload) := by
  have unknown : Fits s s.dropUnknownChannel := (tally_fits _ s).trans (raise_fits _ _ _)
  have badLength : ∀ c, Fits s (s.dropBadLength c) := fun _ => (raise_fits _ _ _).after
      rfl rfl rfl rfl rfl
  have forMode : ∀ c r o, Fits s (s.dropForMode c r o) := fun _ _ _ =>
    (finish_fits _ _ _ _ _).after rfl rfl rfl rfl rfl
  unfold State.takeRecord
  dsimp only
  repeat' split
  · exact unknown
  · exact badLength _
  · exact forMode _ _ _
  · exact unknown
  · exact badLength _
  · exact forMode _ _ _
  · exact passRecord_fits _ _ _ s

/-! ### Frames received (R173, R176, R177, R180) -/

theorem receive_fits {owner : Frame → State → State} (h : ∀ f s, Fits s (owner f s)) (link : Link)
    (kind : Byte) (bytes : List Byte) (s : State) : Fits s (s.receive link kind owner bytes) := by
  unfold State.receive
  repeat' split
  · exact discardFrame_fits _ _ s
  · exact (tally_fits _ s).trans (h _ _)
  · exact .refl s
  · exact .refl s

theorem receiveFailing_fits (link : Link) (bytes : List Byte) (s : State) :
    Fits s (s.receiveFailing link bytes) := by
  unfold State.receiveFailing
  repeat' split
  · exact discardFrame_fits _ _ s
  · exact .refl s
  · exact .refl s

theorem offerRelay_fits (f : Frame) (s : State) : Fits s (s.offerRelay f) := by
  unfold State.offerRelay
  split
  · next h => exact { Fits.refl s with relay := fun _ => offer_length h }
  · exact tally_fits _ s

theorem offerRelayed_fits (f : Frame) (s : State) : Fits s (s.offerRelayed f) := by
  unfold State.offerRelayed
  split
  · next q h =>
    have joined : Fits s { s with ali.outQueue := q } :=
      { Fits.refl s with aOut := fun _ => offer_length h }
    exact joined.trans (examine_fits _)
  · exact (tally_fits _ s).trans (raise_fits _ _ _)

theorem offerCommand_fits (f : Frame) (s : State) : Fits s (s.offerCommand f) := by
  unfold State.offerCommand
  repeat' split
  · next h => exact { Fits.refl s with commands := fun _ => offer_length h }
  · exact (tally_fits _ s).trans (raise_fits _ _ _)
  · exact (tally_fits _ s).trans (raise_fits _ _ _)

/-! ### Lock (R37, R175, R179) -/

theorem discardPartial_fits (link : Link) (partly : Bool) (s : State) :
    Fits s (s.discardPartial link partly) := by
  unfold State.discardPartial
  split
  · exact discardFrame_fits _ _ s
  · exact .refl s

theorem changeALock_fits (inLock : Bool) (s : State) : Fits s (s.changeALock inLock) :=
  (raise_fits _ _ _).after rfl rfl rfl rfl rfl

theorem loseALock_fits (partly : Bool) (s : State) : Fits s (s.loseALock partly) := by
  unfold State.loseALock
  split
  · exact ((changeALock_fits _ _).trans ((discardPartial_fits _ _ _).trans
      ((forChannels_fits cancel_fits _).trans (examine_fits _)))).after rfl rfl rfl rfl rfl
  · exact .refl s

theorem gainALock_fits (s : State) : Fits s s.gainALock := by
  unfold State.gainALock
  split
  · exact .refl s
  · exact (changeALock_fits _ s).trans (examine_fits _)

theorem loseMLock_fits (partly : Bool) (s : State) : Fits s (s.loseMLock partly) := by
  have unlocked : Fits s { s with mli.inLock := false } := { Fits.refl s with }
  have aborted : ∀ t : State, Fits t t.abortM := by
    intro t
    unfold State.abortM
    split
    · exact { Fits.refl t with }
    · exact .refl t
  unfold State.loseMLock
  split
  · exact unlocked.trans ((aborted _).trans (discardPartial_fits _ _ _))
  · exact .refl s

/-! ### Frames sent (R177, R179) -/

/-- The request taken leaves the queue before the examination that follows (R31). -/
theorem takeRequest_fits (s : State) : Fits s s.takeRequest := by
  unfold State.takeRequest
  split
  · refine Fits.trans ?_ (examine_fits _)
    exact { Fits.refl s with aOut := (List.length_eraseP_le).trans }
  · exact .refl s

theorem takeRelayed_fits (s : State) : Fits s s.takeRelayed := by
  unfold State.takeRelayed
  split
  · next m rest h =>
    split
    · exact .refl s
    · have left : Fits s ({ s with ali.outQueue := rest }.startA (relayedFrame m)) :=
        { Fits.refl s with aOut := tail_length h }
      exact left.trans (examine_fits _)
  · exact .refl s

theorem aReady_fits {f : State → State} (h : ∀ s, Fits s (f s)) (s : State) :
    Fits s (if s.aReady then f s else s) := by
  split
  · exact h s
  · exact .refl s

theorem startM_fits (f : Frame) (s : State) : Fits s (s.startM f) := { Fits.refl s with }

theorem takeReply_fits (s : State) : Fits s s.takeReply := by
  unfold State.takeReply
  repeat' split
  · next r rest h =>
    have left : Fits s { s with cmu.replies := rest } := { Fits.refl s with replies := by simp [h] }
    exact left.trans (startM_fits _ _)
  · exact .refl s
  · exact .refl s

theorem takeNotice_fits (s : State) : Fits s s.takeNotice := by
  unfold State.takeNotice
  repeat' split
  · next n rest h =>
    have left : Fits s { s with evu.urgent := rest } := { Fits.refl s with urgent := tail_length h }
    exact left.trans (startM_fits _ _)
  · exact .refl s
  · next n rest h =>
    have left : Fits s { s with evu.routine := rest } :=
      { Fits.refl s with routine := tail_length h }
    exact left.trans (startM_fits _ _)
  · exact .refl s
  · exact .refl s

theorem takeReportFrame_fits (s : State) : Fits s s.takeReportFrame := by
  unfold State.takeReportFrame
  repeat' split
  · exact .refl s
  · exact .refl s
  · exact (startM_fits _ _).after rfl rfl rfl rfl rfl
  · exact .refl s

theorem takeSample_fits (s : State) : Fits s s.takeSample := by
  unfold State.takeSample
  repeat' split
  · next w rest h =>
    have left : Fits s { s with ldu.liveQueue := rest } :=
      { Fits.refl s with live := tail_length h }
    exact left.trans (startM_fits _ _)
  · exact .refl s
  · exact .refl s

theorem takeRelay_fits (s : State) : Fits s s.takeRelay := by
  unfold State.takeRelay
  repeat' split
  · next m rest h =>
    have left : Fits s { s with mli.relayQueue := rest } :=
      { Fits.refl s with relay := tail_length h }
    exact left.trans (startM_fits _ _)
  · exact .refl s
  · exact .refl s

theorem takeForwarded_fits (s : State) : Fits s s.takeForwarded := by
  unfold State.takeForwarded
  repeat' split
  · next f rest h =>
    have left : Fits s { s with mli.forwardQueue := rest } :=
      { Fits.refl s with forward := tail_length h }
    exact left.trans (startM_fits _ _)
  · exact .refl s
  · exact .refl s

theorem endFrame_fits (link : Link) (s : State) : Fits s (s.endFrame link) := by
  cases link with
  | aLink => exact { Fits.refl s with }
  | mLink => exact { Fits.refl s with }

end Sys2Proof.Proofs
end

section
/-! PROOFS. The queues under every step (O4): the commands of the Command Unit, each of which leaves
the place its reply takes (R180), and the rows of the table. -/

namespace Sys2Proof.Proofs

open Sys2Proof.Machine Sys2Proof.Laws

/-! ### The commands (R180) -/

@[simp] theorem answer_state (status : Status) (s : State) : (s.answer status).state = s := rfl

theorem loadRefused_fits (status : Status) (data : List Byte) (s : State) :
    Fits s (s.loadRefused status data).state :=
  tally_fits (fun k => { k with tbs.loadsRefused := inc32 k.tbs.loadsRefused }) s

theorem loadTaken_fits (s : State) : Fits s s.loadTaken.state :=
  tally_fits (fun k => { k with tbs.loadsTaken := inc32 k.tbs.loadsTaken }) s

theorem noArguments_fits {act : State → Answer} (h : ∀ s, Fits s (act s).state) (c : Command)
    (s : State) : Fits s (noArguments act c s).state := by
  rcases noArguments_cases act c s with same | acts
  · rw [same]; exact .refl s
  · rw [acts]; exact h s

theorem argumentsOf_fits {act : List Byte → State → Answer}
    (h : ∀ args s, Fits s (act args s).state) (n : Nat) (c : Command) (s : State) :
    Fits s (argumentsOf n act c s).state := by
  rcases argumentsOf_cases n act c s with same | acts
  · rw [same]; exact .refl s
  · rw [acts]; exact h _ s

theorem load_fits {write : List Int → State → State} (h : ∀ v s, Fits s (write v s))
    (specs : List FieldSpec) (tie : List Int → Nat → Bool) (args : List Byte) (s : State) :
    Fits s (s.load specs tie write args).state := by
  unfold State.load
  dsimp only
  repeat' split
  · exact loadRefused_fits _ _ s
  · exact loadRefused_fits _ _ s
  · exact (h _ s).trans (loadTaken_fits _)

theorem stageChannel_fits (n : Nat) (e : Option ChannelEntry) (s : State) :
    Fits s (s.stageChannel n e) := .of_same rfl rfl rfl rfl rfl

theorem stageVelocity_fits (n : Nat) (t : Option VelocityTable) (s : State) :
    Fits s (s.stageVelocity n t) := .of_same rfl rfl rfl rfl rfl

theorem stageBank_fits (n : Nat) (b : Option ProductBank) (s : State) :
    Fits s (s.stageBank n b) := .of_same rfl rfl rfl rfl rfl

theorem stageLine_fits (l : Option LineSetup) (s : State) : Fits s (s.stageLine l) :=
  .of_same rfl rfl rfl rfl rfl

theorem loadVelocity_fits (c : Command) (s : State) : Fits s (s.loadVelocity c).state := by
  unfold State.loadVelocity
  dsimp only
  split
  · exact argumentsOf_fits (load_fits (fun _ _ => stageVelocity_fits _ _ _) _ _) _ c s
  · exact .refl s

theorem loadShortForm_fits (c : Command) (s : State) : Fits s (s.loadShortForm c).state := by
  unfold State.loadShortForm
  dsimp only
  split
  · exact load_fits (fun _ _ => stageChannel_fits _ _ _) _ _ _ s
  · exact load_fits (fun _ _ => stageVelocity_fits _ _ _) _ _ _ s
  · exact load_fits (fun _ _ => stageBank_fits _ _ _) _ _ _ s
  · exact load_fits (fun _ _ => stageLine_fits _ _) _ _ _ s

theorem readTable_fits (args : List Byte) (s : State) : Fits s (s.readTable args).state := by
  unfold State.readTable
  dsimp only
  split <;> exact .refl s

theorem activate_fits (s : State) : Fits s s.activate.state := by
  unfold State.activate
  repeat' split
  · exact .refl s
  · exact .of_same rfl rfl rfl rfl rfl
  · exact .of_same rfl rfl rfl rfl rfl
  · exact applyActivation_fits s

theorem selectBank_fits (args : List Byte) (s : State) : Fits s (s.selectBank args).state := by
  unfold State.selectBank
  split
  · rw [answer_state]
    exact .of_same rfl rfl rfl rfl rfl
  · exact .refl s

theorem park_fits (s : State) : Fits s s.park.state := by
  unfold State.park
  split
  · exact .refl s
  · rw [modeReply_state]
    exact (enterParking_fits _).after rfl rfl rfl rfl rfl
  · rw [modeReply_state]
    exact .of_same rfl rfl rfl rfl rfl
  · exact .refl s
  · exact .refl s

theorem unpark_fits (s : State) : Fits s s.unpark.state := by
  unfold State.unpark
  split
  · exact .refl s
  · exact .refl s
  · rw [modeReply_state]
    exact .of_same rfl rfl rfl rfl rfl
  · rw [modeReply_state]
    exact (toMode_fits _ _).after rfl rfl rfl rfl rfl
  · dsimp only
    rw [modeReply_state]
    exact ((raise_fits _ _ _).trans ((leaveParked_fits _).trans (examine_fits _))).after
        rfl rfl rfl rfl rfl

theorem fetchReport_fits (args : List Byte) (s : State) : Fits s (s.fetchReport args).state := by
  have starts : ∀ sh d, Fits s (s.startStream sh d).state := fun _ _ =>
    { Fits.refl s with }
  unfold State.fetchReport
  dsimp only
  repeat' split
  · exact .refl s
  · exact .refl s
  · exact .refl s
  · exact .refl s
  · exact starts _ _

theorem releaseReport_fits (args : List Byte) (s : State) :
    Fits s (s.releaseReport args).state := by
  unfold State.releaseReport
  repeat' split
  · exact .refl s
  · rw [answer_state]
    exact (freeContext_fits _ s).trans (tally_fits _ _)
  · exact .refl s

theorem readSnapshot_fits (s : State) : Fits s s.readSnapshot.state := by
  unfold State.readSnapshot
  exact .of_same rfl rfl rfl rfl rfl

theorem armCapture_fits (args : List Byte) (s : State) : Fits s (s.armCapture args).state := by
  unfold State.armCapture
  repeat' split
  · exact .refl s
  · exact .refl s
  · rw [answer_state]
    exact .of_same rfl rfl rfl rfl rfl

theorem readCapture_fits (args : List Byte) (s : State) : Fits s (s.readCapture args).state := by
  unfold State.readCapture
  repeat' split
  all_goals exact .refl s

theorem clearEvents_fits (args : List Byte) (s : State) : Fits s (s.clearEvents args).state := by
  unfold State.clearEvents
  dsimp only
  split
  · dsimp only
    exact foldl_fits (clearFlag_fits _) allFlags s
  · exact .refl s

theorem setEventMask_fits (args : List Byte) (s : State) : Fits s (s.setEventMask args).state := by
  unfold State.setEventMask
  dsimp only
  split
  · dsimp only
    exact foldl_fits (maskFlag_fits _) allFlags s
  · exact .refl s

theorem readCountersCommand_fits (c : Command) (s : State) :
    Fits s (s.readCountersCommand c).state := by
  have read : ∀ option, Fits s (s.readCounters option).state := by
    intro option
    unfold State.readCounters
    dsimp only
    repeat' split
    · exact .refl s
    · exact .of_same rfl rfl rfl rfl rfl
    · exact .refl s
  unfold State.readCountersCommand
  split
  · exact read _
  · exact read _
  · exact .refl s

/-- RESTART empties every queue before the examination that ends it (R183). -/
theorem restartCommand_fits (s : State) : Fits s s.restartCommand.state := by
  have emptied : Fits s (afresh s) :=
    .of_reset rfl (by simp [State.QueuesFit, afresh, Ldu.cleared])
  unfold State.restartCommand
  dsimp only
  rw [restart_eq]
  exact emptied.trans ((forChannels_fits dropRequest_fits _).trans
    ((reloadStopped_fits _ _).trans (examine_fits _)))

/-- A command is taken only while the reply queue has a free place, and its act leaves that place to
its reply (R180). -/
theorem takeCommand_queuesFit {act : Command → State → Answer} (h : ∀ c s, Fits s (act c s).state)
    (row : Instr) {s : State} (fit : s.QueuesFit) : (s.takeCommand row act).QueuesFit := by
  unfold State.takeCommand
  split
  · exact fit
  · next c rest waits =>
    split
    · next taken =>
      obtain ⟨free, -⟩ := taken
      have left : Fits s { s with cmu.commands := rest } :=
        { Fits.refl s with commands := tail_length waits }
      have acted := left.trans (h c _)
      obtain ⟨commands, -, others⟩ := acted.queuesFit fit
      refine ⟨commands, ?_, others⟩
      rw [List.length_append]
      exact (Nat.succ_le_succ acted.replies).trans free
    · exact fit

/-! ### Every step -/

theorem reportDrained_fits (before after : State) : Fits after (before.reportDrained after) :=
  .of_same (by simp) (by simp) (by simp) (by simp) (by simp)

theorem event_queuesFit {f : State → State} {s : State} (h : (f s).QueuesFit) (fit : s.QueuesFit) :
    (s.event f).QueuesFit := by
  unfold State.event
  split
  · exact fit
  · exact (reportDrained_fits _ _).queuesFit h

theorem afterReset_queuesFit (pending : List Instr) (pins : Pins) :
    (State.afterReset pending pins).QueuesFit := by
  simp [State.QueuesFit, State.afterReset, Ldu.cleared]

/-- Every row of the table keeps every queue within its capacity. -/
theorem exec_queuesFit {c : Instr} {s t : State} (fit : s.QueuesFit) (h : exec c s = .next t) :
    t.QueuesFit := by
  have event {f : State → State} (hf : ∀ s, Fits s (f s)) : (s.event f).QueuesFit :=
    event_queuesFit ((hf s).queuesFit fit) fit
  have command {act : Command → State → Answer} (row : Instr) (ha : ∀ c s, Fits s (act c s).state) :
      (s.event (State.takeCommand row act)).QueuesFit :=
    event_queuesFit (takeCommand_queuesFit ha row fit) fit
  cases c <;> cases h
  case shotRecord => exact event (receive_fits (fun f => takeRecord_fits f.payload) _ _ _)
  case concentratorMessage => exact event (receive_fits offerRelay_fits _ _ _)
  case relayMessage => exact event (receive_fits offerRelayed_fits _ _ _)
  case commandFrame => exact event (receive_fits offerCommand_fits _ _ _)
  case pulseEdge => exact event_queuesFit ((takePulse_fits _).queuesFit fit) fit
  case shellDetectChange => exact event_queuesFit ((takeDetect_fits _).queuesFit fit) fit
  case debounceExpiry => exact event debounceOut_fits
  case referenceIntervalExpiry channel => exact event (intervalOut_fits channel)
  case referenceTimeout channel => exact event (requestOut_fits channel)
  case dwellLimit context => exact event (dwellOut_fits context)
  case tailTimeout context => exact event (tailOut_fits context)
  case parkDrainLimit => exact event drainOut_fits
  case drainedReport => exact event takeDrainedReport_fits
  case aLinkLockLost partly => exact event (loseALock_fits partly)
  case aLinkLockGained => exact event gainALock_fits
  case mLinkLockLost partly => exact event (loseMLock_fits partly)
  case mLinkLockGained => exact event fun s => { Fits.refl s with }
  case sendReferenceRequest => exact event (aReady_fits takeRequest_fits)
  case sendRelayedMessage => exact event (aReady_fits takeRelayed_fits)
  case sendReply => exact event takeReply_fits
  case sendNotice => exact event takeNotice_fits
  case sendReportFrame => exact event takeReportFrame_fits
  case sendWallSample => exact event takeSample_fits
  case sendConcentratorMessage => exact event takeRelay_fits
  case sendForwardedRecord => exact event takeForwarded_fits
  case hardReset => exact afterReset_queuesFit s.pending s.pins
  case identify => exact command _ (noArguments_fits fun s => .refl s)
  case loadChannel => exact command _ (argumentsOf_fits
    (load_fits (fun _ _ => stageChannel_fits _ _ _) _ _) _)
  case loadVelocity => exact command _ loadVelocity_fits
  case loadBank => exact command _ (argumentsOf_fits
    (load_fits (fun _ _ => stageBank_fits _ _ _) _ _) _)
  case loadLine => exact command _ (argumentsOf_fits
    (load_fits (fun _ _ => stageLine_fits _ _) _ _) _)
  case loadShortForm => exact command _ loadShortForm_fits
  case readTable => exact command _ (argumentsOf_fits readTable_fits 3)
  case activate => exact command _ (noArguments_fits activate_fits)
  case selectBank => exact command _ (argumentsOf_fits selectBank_fits 1)
  case forceHead => exact command _ (noArguments_fits headEnd_fits)
  case forceTail => exact command _ (noArguments_fits tailEnd_fits)
  case park => exact command _ (noArguments_fits park_fits)
  case unpark => exact command _ (noArguments_fits unpark_fits)
  case fetchReport => exact command _ (argumentsOf_fits fetchReport_fits 6)
  case releaseReport => exact command _ (argumentsOf_fits releaseReport_fits 4)
  case readSnapshot => exact command _ (noArguments_fits readSnapshot_fits)
  case armCapture => exact command _ (argumentsOf_fits armCapture_fits 3)
  case readCapture => exact command _ (argumentsOf_fits readCapture_fits 2)
  case readEvents => exact command _ (noArguments_fits fun s => .refl s)
  case clearEvents => exact command _ (argumentsOf_fits clearEvents_fits 3)
  case setEventMask => exact command _ (argumentsOf_fits setEventMask_fits 3)
  case readCounters => exact command _ readCountersCommand_fits
  case restart => exact command _ (noArguments_fits restartCommand_fits)
  case unknownCommand => exact command _ fun _ s => .refl s
  case linkFrameDiscarded link frame => exact event (receiveFailing_fits link frame)
  case frameSendComplete link => exact event (endFrame_fits link)
  case resetRelease =>
    split
    · exact afterReset_queuesFit s.pending s.pins
    · exact fit

theorem millisecond_fits (s : State) : Fits s s.millisecond := by
  cases held : s.resetHeld with
  | true => simp only [State.millisecond, held, if_true]; exact .refl s
  | false =>
    rw [millisecond_eq held]
    exact .of_same rfl rfl rfl rfl rfl

/-- Settles O4: an item joins a queue only where there is a place for it, and whatever else a row
changes shortens a queue or empties it. -/
theorem stepKeepsQueuesWithinCapacity : Obligations.StepKeepsQueuesWithinCapacity := by
  unfold Obligations.StepKeepsQueuesWithinCapacity
  intro s t fit h
  unfold step at h
  split at h
  · next c rest _ => exact exec_queuesFit (s := { s with pending := rest }) fit h
  · split at h
    · exact exec_queuesFit fit h
    · cases h
      exact (millisecond_fits s).queuesFit fit

end Sys2Proof.Proofs
end

section
/-! PROOFS. The M-out arbiter (O21): the class that has the turn, and the frame that its row starts
(R157, R168, R176, R178, R179). -/

namespace Sys2Proof.Proofs

open Sys2Proof.Machine Sys2Proof.Laws

/-! ### The turn (R179) -/

/-- On a free link in lock the arbiter takes the first class that has a frame, and no other. -/
theorem mTakes_eq {s : State} (lock : s.mli.inLock = true) (free : s.mli.sending = .none)
    (c : MClass) : s.mTakes c = decide (s.mClass = .some c) := by
  simp [State.mTakes, State.mReady, lock, free]

/-- The event of a row that takes an item from its queue and starts its frame. -/
theorem event_startM {f : State → State} {s t : State} {frame : Frame} (live : s.resetHeld = false)
    (h : f s = t.startM frame) (mode : t.scs = s.scs) (references : t.rfs = s.rfs)
    (tables : t.tbs = s.tbs) : s.event f = t.startM frame := by
  rw [event_live live, h]
  exact reportDrained_same (congrArg (·.mode) mode) (congrArg (·.channels) references)
    (congrArg (·.active.channels) tables)

theorem reply_frame_eq (r : Reply) :
    r.frame = ⟨0x41, 0, r.tag :: r.code :: BitVec.ofNat 8 r.status.code :: r.data⟩ := by
  have code : be 1 r.status.code = [BitVec.ofNat 8 r.status.code] :=
    be_one (by cases r.status <;> decide)
  rw [Reply.frame, code]
  rfl

/-! ### The rows (R157, R168, R176, R178) -/

section
variable {s : State} (live : s.resetHeld = false) (lock : s.mli.inLock = true)
  (free : s.mli.sending = .none)
include live lock free

theorem exec_sendReply {r : Reply} {rest : List Reply} (h : s.cmu.replies = r :: rest) :
    exec .sendReply s = .next (({ s with cmu.replies := rest } : State).startM r.frame) := by
  have turn : s.mClass = .some .reply := by simp [State.mClass, h]
  refine congrArg Host.Outcome.next (event_startM live ?_ rfl rfl rfl)
  simp [State.takeReply, mTakes_eq lock free, turn, h]

theorem exec_sendNotice_urgent {n : Notice} {rest : List Notice} (turn : s.mClass = .some .urgent)
    (h : s.evu.urgent = n :: rest) : exec .sendNotice s =
      .next (({ s with evu.urgent := rest } : State).startM n.frame) := by
  refine congrArg Host.Outcome.next (event_startM live ?_ rfl rfl rfl)
  simp [State.takeNotice, mTakes_eq lock free, turn, h]

theorem exec_sendNotice_routine {n : Notice} {rest : List Notice}
    (turn : s.mClass = .some .routine) (h : s.evu.routine = n :: rest) : exec .sendNotice s =
      .next (({ s with evu.routine := rest } : State).startM n.frame) := by
  refine congrArg Host.Outcome.next (event_startM live ?_ rfl rfl rfl)
  simp [State.takeNotice, mTakes_eq lock free, turn, h]

theorem exec_sendWallSample {w : WallSample} {rest : List WallSample}
    (turn : s.mClass = .some .live) (h : s.ldu.liveQueue = w :: rest) : exec .sendWallSample s =
      .next (({ s with ldu.liveQueue := rest } : State).startM w.frame) := by
  refine congrArg Host.Outcome.next (event_startM live ?_ rfl rfl rfl)
  simp [State.takeSample, mTakes_eq lock free, turn, h]

theorem exec_sendConcentratorMessage {m : Message} {rest : List Message}
    (turn : s.mClass = .some .relay) (h : s.mli.relayQueue = m :: rest) :
    exec .sendConcentratorMessage s =
      .next (({ s with mli.relayQueue := rest } : State).startM (concentratorFrame m)) := by
  refine congrArg Host.Outcome.next (event_startM live ?_ rfl rfl rfl)
  simp [State.takeRelay, mTakes_eq lock free, turn, h]

theorem exec_sendForwardedRecord {f : Forwarded} {rest : List Forwarded}
    (turn : s.mClass = .some .forward) (h : s.mli.forwardQueue = f :: rest) :
    exec .sendForwardedRecord s =
      .next (({ s with mli.forwardQueue := rest } : State).startM f.frame) := by
  refine congrArg Host.Outcome.next (event_startM live ?_ rfl rfl rfl)
  simp [State.takeForwarded, mTakes_eq lock free, turn, h]

end

/-- Settles O21: with the classes before it empty, a class that has a frame has the turn. -/
theorem arbiterSendsHighestClass : Obligations.ArbiterSendsHighestClass := by
  unfold Obligations.ArbiterSendsHighestClass
  intro s live lock free sent notice
  refine ⟨fun r rest h => ?reply, fun replies => ⟨fun n rest h => ?urgent, fun urgent stream =>
    ⟨fun n rest h => ?routine, fun routine => ⟨fun w rest h => ?sample, fun samples =>
      ⟨fun m rest h => ?relay, fun relay f rest h => ?forward⟩⟩⟩⟩⟩
  case reply =>
    rw [exec_sendReply live lock free h, reply_frame_eq]
    rfl
  case urgent => exact exec_sendNotice_urgent live lock free (by simp [State.mClass, replies, h]) h
  case routine =>
    exact exec_sendNotice_routine live lock free
      (by simp [State.mClass, replies, urgent, stream, h]) h
  case sample =>
    exact exec_sendWallSample live lock free
      (by simp [State.mClass, replies, urgent, stream, routine, h]) h
  case relay =>
    exact exec_sendConcentratorMessage live lock free
      (by simp [State.mClass, replies, urgent, stream, routine, samples, h]) h
  case forward =>
    exact exec_sendForwardedRecord live lock free
      (by simp [State.mClass, replies, urgent, stream, routine, samples, relay, h]) h

end Sys2Proof.Proofs
end

section
/-! PROOFS. The Live Data Unit's commands: READ SNAPSHOT (O54), and ARM CAPTURE and READ CAPTURE
(O55). -/

namespace Sys2Proof.Proofs

open Sys2Proof.Machine Sys2Proof.Laws

/-! ### READ SNAPSHOT (R159, R160) -/

/-- A command that leaves the queue leaves the contexts, and so the oldest of them, as they stand.
-/
theorem acting_oldest (rest : List Command) (s : State) (p : Shell → Bool) :
    (acting rest s).oldest p = s.oldest p := by
  have lowest : ∀ l, (acting rest s).lowest l = s.lowest l := by
    intro l
    induction l with
    | nil => rfl
    | cons i l ih => rw [State.lowest, State.lowest, ih]; rfl
  exact lowest _

theorem acting_snapshot (rest : List Command) (s : State) :
    (acting rest s).snapshot = s.snapshot := by
  have opened : (acting rest s).openContextBytes = s.openContextBytes := by
    unfold State.openContextBytes State.openContext
    rw [acting_oldest]
    rfl
  unfold State.snapshot
  rw [opened]
  rfl

/-- Item 4 of R159 with no context OPEN, and with one. -/
theorem openContextBytes_none {s : State} (h : s.openContext = .none) :
    s.openContextBytes = List.replicate 10 0 := by
  rw [State.openContextBytes, h]
  rfl

theorem openContextBytes_some {s : State} {i : Fin 4} (h : s.openContext = .some i) :
    s.openContextBytes = 1 :: be 4 (s.sequenceAt i) ++ 1 :: beSigned 4 (s.positionIn i) := by
  rw [State.openContextBytes, h]
  rfl

/-- Item 6 of R159: the eight channel entries one after another. -/
theorem channels_flatten (f : Fin 8 → List Byte) : (allChannels.map f).flatten =
    f 0 ++ f 1 ++ f 2 ++ f 3 ++ f 4 ++ f 5 ++ f 6 ++ f 7 := by
  simp [allChannels]

theorem exec_readSnapshot {s : State} {c : Command} {rest : List Command} (hw : s.Waits c rest)
    (hc : c.code = 0x0F) (ha : c.args = []) : exec .readSnapshot s =
      .next { s.replied c rest .done s.snapshot with ldu.interval := ⟨0, .none, .none⟩ } := by
  have row : c.row = .readSnapshot := by simp [Command.row, hc]
  show Host.Outcome.next (s.event _) = _
  rw [event_noArguments _ hw row ha, State.readSnapshot, acting_snapshot]
  exact congrArg _ (reportDrained_withReply rfl rfl rfl)

/-- Settles O54: the record is formed in the state the command found, and the statistics cleared. -/
theorem snapshotIsFormedAndCleared : Obligations.SnapshotIsFormedAndCleared := by
  unfold Obligations.SnapshotIsFormedAndCleared
  intro s c rest hw hc ha length opened channel
  have item4 : s.openContextBytes = opened := by
    cases h : s.openContext with
    | none => rw [openContextBytes_none h]; simp only [opened, h]
    | some i => rw [openContextBytes_some h]; simp only [opened, h]; rfl
  have items : s.snapshot =
      be 1 s.scs.mode.code ++ beBool s.scs.parkRequest ++ be 4 s.tbs.generation ++
        beBool s.tbs.activationPending ++ be 1 s.tbs.selectedBank.val ++ opened ++ be 6 length ++
        channel 0 ++ channel 1 ++ channel 2 ++ channel 3 ++ channel 4 ++ channel 5 ++
        channel 6 ++ channel 7 ++ be 4 s.ldu.interval.count ++ beOpt 4 s.ldu.interval.min ++
        beOpt 4 s.ldu.interval.max := by
    rw [State.snapshot, item4, channels_flatten]
    simp only [List.append_assoc]
    rfl
  rw [exec_readSnapshot hw hc ha, items]

/-! ### ARM CAPTURE (R161) -/

theorem slotOf_beyond {n : Nat} (h : 8 ≤ n) : slotOf n = .none := dif_neg (Nat.not_lt.mpr h)

theorem slotOf_channel (i : Fin 8) : slotOf i.val = .some i := dif_pos i.isLt

/-- The kind filter of a code in range (R161). -/
theorem kindFilter_of_byte (b : Byte) : KindFilter.ofCode b.toNat =
    if b = 0 then .measure else if b = 1 then .reference else .any := by
  have zero : b.toNat = 0 ↔ b = 0 := by bv_omega
  have one : b.toNat = 1 ↔ b = 1 := by bv_omega
  simp only [KindFilter.ofCode, zero, one]

theorem condition_of_byte (b : Byte) : Condition.ofCode b.toNat =
    if b = 0 then .next else .nextRejected := by
  have zero : b.toNat = 0 ↔ b = 0 := by bv_omega
  simp only [Condition.ofCode, zero]

theorem armCapture_range {channel filter condition : Byte}
    (h : 8 ≤ channel.toNat ∨ 3 ≤ filter.toNat ∨ 2 ≤ condition.toNat) (s : State) :
    s.armCapture [channel, filter, condition] = s.answer .range := by
  unfold State.armCapture
  split
  · rfl
  · next c slot =>
    have known : channel.toNat < 8 := by
      by_contra beyond
      cases (slotOf_beyond (Nat.not_lt.mp beyond)).symm.trans slot
    have outside : 2 < filter.toNat ∨ 1 < condition.toNat :=
      h.resolve_left (Nat.not_le.mpr known)
    exact if_pos outside

theorem armCapture_armed {channel filter condition : Byte} {i : Fin 8} (hi : channel.toNat = i.val)
    (hf : filter.toNat ≤ 2) (hd : condition.toNat ≤ 1) (s : State) :
    s.armCapture [channel, filter, condition] =
      ({ s with
        ldu.capture := .armed i
          (if filter = 0 then .measure else if filter = 1 then .reference else .any)
          (if condition = 0 then .next else .nextRejected) } : State).answer .done := by
  have slot : slotOf (argByte [channel, filter, condition] 0) = .some i :=
    (congrArg slotOf hi).trans (slotOf_channel i)
  have inside : ¬ (2 < filter.toNat ∨ 1 < condition.toNat) := by omega
  rw [← kindFilter_of_byte, ← condition_of_byte, State.armCapture, slot]
  exact if_neg inside

/-! ### READ CAPTURE (R163) -/

theorem ofBytes_two (high low : Byte) : ofBytes [high, low] = high.toNat * 256 + low.toNat := by
  simp [ofBytes]

theorem readCapture_state {s : State} (h : ∀ r o t, s.ldu.capture ≠ .captured r o t)
    (args : List Byte) : s.readCapture args = s.answer .state := by
  unfold State.readCapture
  split
  · next r o t captured => exact absurd captured (h r o t)
  · rfl

/-- The items of R163's reply, the marks byte by the segment's place. -/
theorem captureBytes_eq (r : ShotRecord) (o : ShotOutcome) (t : EchoTimes) (i : Nat) :
    captureBytes r o t i = be 2 i ++ be 2 (segmentCount r) ++
      be 1 ((if i = 0 then 1 else 0) + (if i + 1 = segmentCount r then 2 else 0)) ++ r.header ++
      be 1 o.code ++ beOpt 4 t.t1 ++ beOpt 4 t.t2 ++ beOpt 4 t.transit ++
      be 2 (segmentSamples r i).length ++ sampleBytes (segmentSamples r i) := by
  have first : (decide (i = 0)).toNat = if i = 0 then 1 else 0 := by
    by_cases h : i = 0 <;> simp [h]
  have last : 2 * (decide (i + 1 = segmentCount r)).toNat =
      if i + 1 = segmentCount r then 2 else 0 := by
    by_cases h : i + 1 = segmentCount r <;> simp [h]
  rw [captureBytes, first, last]

section
variable {s : State} {r : ShotRecord} {o : ShotOutcome} {t : EchoTimes} {args : List Byte}
  (captured : s.ldu.capture = .captured r o t)
include captured

theorem readCapture_range (h : segmentCount r ≤ ofBytes args) :
    s.readCapture args = s.answer .range := by
  rw [State.readCapture, captured]
  exact if_pos h

theorem readCapture_segment (h : ofBytes args < segmentCount r) :
    s.readCapture args = ⟨s, .done, captureBytes r o t (ofBytes args)⟩ := by
  rw [State.readCapture, captured]
  exact if_neg (Nat.not_le.mpr h)

end

/-! ### The two commands (R180) -/

section
variable {s : State} {c : Command} {rest : List Command} {args : List Byte} {a : Answer}
  (hw : s.Waits c rest)
include hw

theorem exec_armCapture (hc : c.code = 0x10) (ha : c.args = args) (hn : args.length = 3)
    (h : (acting rest s).armCapture args = a) (mode : a.state.scs.mode = s.scs.mode)
    (references : a.state.rfs = s.rfs) (tables : a.state.tbs = s.tbs) :
    exec .armCapture s = .next (withReply c a) := by
  subst ha
  have row : c.row = .armCapture := by simp [Command.row, hc]
  exact congrArg Host.Outcome.next (event_argumentsOf hw row hn h mode references tables)

theorem exec_readCapture (hc : c.code = 0x11) (ha : c.args = args) (hn : args.length = 2)
    (h : (acting rest s).readCapture args = a) (mode : a.state.scs.mode = s.scs.mode)
    (references : a.state.rfs = s.rfs) (tables : a.state.tbs = s.tbs) :
    exec .readCapture s = .next (withReply c a) := by
  subst ha
  have row : c.row = .readCapture := by simp [Command.row, hc]
  exact congrArg Host.Outcome.next (event_argumentsOf hw row hn h mode references tables)

end

/-- Settles O55: the answer of each command by its arguments and the capture it finds. -/
theorem captureIsArmedAndRead : Obligations.CaptureIsArmedAndRead := by
  unfold Obligations.CaptureIsArmedAndRead
  intro s c rest hw
  refine ⟨fun channel filter condition hc ha => ⟨fun outside => ?_, fun i hi hf hd => ?_⟩,
    fun high low hc ha => ⟨fun none => ?_, fun r o t captured => ?_⟩⟩
  · exact exec_armCapture hw hc ha rfl (armCapture_range outside _) rfl rfl rfl
  · exact exec_armCapture hw hc ha rfl (armCapture_armed hi hf hd _) rfl rfl rfl
  · exact exec_readCapture hw hc ha rfl (readCapture_state (s := acting rest s) none _) rfl rfl rfl
  · have index := ofBytes_two high low
    refine ⟨fun beyond => ?_, fun within => ?_⟩
    · rw [← index] at beyond
      exact exec_readCapture hw hc ha rfl
        (readCapture_range (s := acting rest s) captured beyond) rfl rfl rfl
    · rw [← index] at within ⊢
      rw [exec_readCapture hw hc ha rfl
        (readCapture_segment (s := acting rest s) captured within) rfl rfl rfl, captureBytes_eq]
      rfl

end Sys2Proof.Proofs
end

section
/-! PROOFS. One occurrence (O19): its flag, the notice it forms and the queue or the drop counter of the
notice's class, and the ATTN line (R166, R167, R169). -/

namespace Sys2Proof.Proofs

open Sys2Proof.Machine Sys2Proof.Laws

/-! ### The class queues (R167) -/

/-- The queue of a class of notices, urgent or routine. -/
def noticeQueue : Bool → State → List Notice
  | true, s => s.evu.urgent
  | false, s => s.evu.routine

/-- A notice offered joins the queue of its class while that holds fewer than 16, and no other. -/
theorem offerNotice_noticeQueue (urgent : Bool) (n : Notice) (s : State) :
    noticeQueue urgent (s.offerNotice n) =
      if n.flag.urgent = urgent ∧ (noticeQueue urgent s).length < 16 then
        noticeQueue urgent s ++ [n]
      else noticeQueue urgent s := by
  unfold State.offerNotice offer Config.noticePlaces
  cases hc : n.flag.urgent with
  | true =>
    by_cases free : s.evu.urgent.length < 16 <;> cases urgent <;> simp [noticeQueue, free]
  | false =>
    by_cases free : s.evu.routine.length < 16 <;> cases urgent <;> simp [noticeQueue, free]

/-- A notice offered to a full queue is counted as dropped, by its class. -/
theorem offerNotice_counters (n : Notice) (s : State) : (s.offerNotice n).counters =
    { s.counters with
      evu.urgentDropped := if n.flag.urgent = true ∧ 16 ≤ s.evu.urgent.length then
          inc32 s.counters.evu.urgentDropped else s.counters.evu.urgentDropped
      evu.routineDropped := if n.flag.urgent = false ∧ 16 ≤ s.evu.routine.length then
          inc32 s.counters.evu.routineDropped else s.counters.evu.routineDropped } := by
  unfold State.offerNotice offer Config.noticePlaces
  cases hc : n.flag.urgent with
  | true =>
    by_cases free : s.evu.urgent.length < 16
    · simp [free, Nat.not_le.mpr free]
    · simp [free, Nat.not_lt.mp free, State.tally]
  | false =>
    by_cases free : s.evu.routine.length < 16
    · simp [free, Nat.not_le.mpr free]
    · simp [free, Nat.not_lt.mp free, State.tally]

/-! ### An occurrence (R166) -/

/-- An occurrence of a flag that was clear and enabled forms a notice. -/
theorem raise_forms {f : Machine.Flag} {s : State}
    (h : (s.flag f).isSet = false ∧ (s.flag f).enabled = true) (q : Option Nat) :
    s.raise f q = (s.setFlag f ((s.flag f).occur q)).offerNotice
      ⟨f, min ((s.flag f).count + 1) 255, q⟩ :=
  if_pos (by simp [h])

/-- An occurrence of any other flag forms none. -/
theorem raise_silent {f : Machine.Flag} {s : State}
    (h : ¬ ((s.flag f).isSet = false ∧ (s.flag f).enabled = true)) (q : Option Nat) :
    s.raise f q = s.setFlag f ((s.flag f).occur q) :=
  if_neg (by simpa using h)

theorem raise_noticeQueue (urgent : Bool) (f : Machine.Flag) (q : Option Nat) (s : State) :
    noticeQueue urgent (s.raise f q) =
      if ((s.flag f).isSet = false ∧ (s.flag f).enabled = true) ∧ f.urgent = urgent ∧
          (noticeQueue urgent s).length < 16 then
        noticeQueue urgent s ++ [⟨f, min ((s.flag f).count + 1) 255, q⟩]
      else noticeQueue urgent s := by
  have kept : noticeQueue urgent (s.setFlag f ((s.flag f).occur q)) = noticeQueue urgent s := by
    cases urgent <;> rfl
  by_cases forms : (s.flag f).isSet = false ∧ (s.flag f).enabled = true
  · rw [raise_forms forms, offerNotice_noticeQueue, kept]
    simp only [forms, and_self, true_and]
  · rw [raise_silent forms, kept, if_neg fun h => forms h.1]

theorem raise_dropped (f : Machine.Flag) (q : Option Nat) (s : State) : (s.raise f q).counters =
    { s.counters with
      evu.urgentDropped :=
        if ((s.flag f).isSet = false ∧ (s.flag f).enabled = true) ∧ f.urgent = true ∧
            16 ≤ s.evu.urgent.length then
          inc32 s.counters.evu.urgentDropped else s.counters.evu.urgentDropped
      evu.routineDropped :=
        if ((s.flag f).isSet = false ∧ (s.flag f).enabled = true) ∧ f.urgent = false ∧
            16 ≤ s.evu.routine.length then
          inc32 s.counters.evu.routineDropped else s.counters.evu.routineDropped } := by
  by_cases forms : (s.flag f).isSet = false ∧ (s.flag f).enabled = true
  · rw [raise_forms forms, offerNotice_counters]
    simp only [forms, and_self, true_and]
    rfl
  · rw [raise_silent forms, if_neg fun h => forms h.1, if_neg fun h => forms h.1]
    rfl

/-! ### ATTN (R169) -/

theorem mem_allFlags (f : Machine.Flag) : f ∈ allFlags := by cases f <;> decide

theorem attn_iff (s : State) :
    s.attn = true ↔ ∃ g, (s.flag g).isSet = true ∧ (s.flag g).enabled = true := by
  simp [State.attn, mem_allFlags]

/-- Settles O19: the flag, the two class queues with their drop counters, and what stands. -/
theorem occurrenceSetsFlagAndFormsNotice : Obligations.OccurrenceSetsFlagAndFormsNotice := by
  unfold Obligations.OccurrenceSetsFlagAndFormsNotice
  intro f q s t n forms
  have rest : t = { s with evu := t.evu, counters := t.counters } := by
    rw [raise_counters]
    exact raise_eq f q s
  exact ⟨raise_flag_same f q s, fun g other => raise_flag_other other q s,
    raise_noticeQueue true f q s, raise_noticeQueue false f q s, raise_dropped f q s, rest,
    attn_iff t⟩

end Sys2Proof.Proofs
end

section
/-! PROOFS. The Event Unit's commands: READ EVENTS (O56), CLEAR EVENTS (O57) and SET EVENT MASK (O58),
the last two as walks over the flags in the order of their numbers (R170 to R172). -/

namespace Sys2Proof.Proofs

open Sys2Proof.Machine Sys2Proof.Laws

/-! ### READ EVENTS (R170) -/

theorem readEvents_eq (s : State) : s.readEvents =
    ⟨s, .done, digits 3 (bitsBelow (fun i => (s.flag (flagOf i)).isSet) 18) ++
      digits 3 (bitsBelow (fun i => (s.flag (flagOf i)).enabled) 18) ++
      (allFlags.map fun f => be 1 (s.flag f).count).flatten ++
      (allFlags.map fun f => beOpt 4 (s.flag f).latest).flatten⟩ := by
  rw [State.readEvents, State.setFlags, State.mask, flagSet_bits, flagSet_bits]

/-- Settles O56: the two sets are the numbers of their bits, and the command only answers. -/
theorem readEventsChangesNothing : Obligations.ReadEventsChangesNothing := by
  unfold Obligations.ReadEventsChangesNothing
  intro s c rest hw hc
  have row : c.row = .readEvents := by simp [Command.row, hc]
  refine ⟨fun carries => ?_, fun ha => ⟨bitsBelow (fun i => (s.flag (flagOf i)).isSet) 18,
    bitsBelow (fun i => (s.flag (flagOf i)).enabled) 18, ?_, bitsBelow_lt _ _, bitsBelow_lt _ _,
    fun f => ⟨flagSet_testBit (fun f => (s.flag f).isSet) f,
      flagSet_testBit (fun f => (s.flag f).enabled) f⟩⟩⟩
  · have answered := exec_misshapen hw (by simpa [Command.lengthFits, hc] using carries)
    rwa [row] at answered
  · exact congrArg Host.Outcome.next
      (event_answer _ hw row .done _ ((if_pos ha).trans (readEvents_eq _)))

/-! ### A walk over the flags -/

/-- What every flag's change keeps, the flags one after another keep. -/
theorem foldl_keeps {α : Type} {f : State → Machine.Flag → State} (g : State → α)
    (h : ∀ s x, g (f s x) = g s) (l : List Machine.Flag) (s : State) : g (l.foldl f s) = g s :=
  (List.foldl_hom g (g₂ := fun a _ => a) fun s x => (h s x).symm).symm.trans (List.foldl_fixed l)

/-- Where a step of the walk changes its own flag alone, and a second time changes it no further, the
walk changes exactly the flags it names. -/
theorem foldl_flag {f : State → Machine.Flag → State} {v : Machine.Flag → FlagState → FlagState}
    (h : ∀ s x g, (f s x).flag g = if g = x then v g (s.flag g) else s.flag g)
    (twice : ∀ g a, v g (v g a) = v g a) (l : List Machine.Flag) (g : Machine.Flag) (s : State) :
    (l.foldl f s).flag g = if g ∈ l then v g (s.flag g) else s.flag g := by
  induction l generalizing s with
  | nil => simp
  | cons x l ih =>
    rw [List.foldl_cons, ih, h]
    by_cases here : g = x
    · simp [here, twice]
    · simp [here]

theorem ofBytes_three (high mid low : Byte) :
    ofBytes [high, mid, low] = (high.toNat * 256 + mid.toNat) * 256 + low.toNat := by
  simp [ofBytes]

theorem setFlag_flag (f g : Machine.Flag) (v : FlagState) (s : State) :
    (s.setFlag f v).flag g = if g = f then v else s.flag g := flag_set f g v s

/-! ### CLEAR EVENTS (R171) -/

theorem clearFlag_flag (n : Nat) (s : State) (f g : Machine.Flag) :
    (s.clearFlag n f).flag g =
      if g = f then
        if n.testBit g.index.val then ⟨false, 0, .none, (s.flag g).enabled⟩ else s.flag g
      else s.flag g := by
  unfold State.clearFlag inFlagSet
  by_cases here : g = f
  · subst here
    split <;> simp [setFlag_flag, *]
  · split <;> simp [setFlag_flag, here]

/-- Every flag named is cleared, and every other stands. -/
theorem clearFlags_flag (n : Nat) (s : State) (g : Machine.Flag) :
    (allFlags.foldl (State.clearFlag n) s).flag g =
      if n.testBit g.index.val then ⟨false, 0, .none, (s.flag g).enabled⟩ else s.flag g := by
  rw [foldl_flag (v := fun g a =>
    if n.testBit g.index.val then ⟨false, 0, .none, a.enabled⟩ else a) (clearFlag_flag n)
    (fun g a => by split <;> rfl), if_pos (mem_allFlags g)]

/-- CLEAR EVENTS changes the flags alone. -/
theorem clearFlags_eq (n : Nat) (s : State) : allFlags.foldl (State.clearFlag n) s =
    { s with evu.flags := (allFlags.foldl (State.clearFlag n) s).evu.flags } := by
  have outside := foldl_keeps (f := State.clearFlag n)
    (fun t => ({ t with evu.flags := s.evu.flags } : State))
    (fun t f => by unfold State.clearFlag; split <;> rfl) allFlags s
  exact congrArg (fun t : State =>
    { t with evu.flags := (allFlags.foldl (State.clearFlag n) s).evu.flags }) outside

theorem clearEvents_range {args : List Byte} (h : 2 ^ 18 ≤ ofBytes args) (s : State) :
    s.clearEvents args = s.answer .range :=
  if_neg (by simpa [flagSetInRange] using h)

theorem clearEvents_named {args : List Byte} (h : ofBytes args < 2 ^ 18) (s : State) :
    s.clearEvents args = ⟨allFlags.foldl (State.clearFlag (ofBytes args)) s, .done,
      (allFlags.map fun f =>
        be 1 (if (ofBytes args).testBit f.index.val then (s.flag f).count else 0)).flatten⟩ :=
  if_pos (by simpa [flagSetInRange] using h)

/-! ### SET EVENT MASK (R172) -/

/-- The notices of a class that a new mask calls for among some flags of a state. -/
def called (new : Nat) (s : State) (urgent : Bool) (l : List Machine.Flag) : List Notice :=
  (l.filter fun f => f.urgent == urgent && (s.flag f).isSet && !(s.flag f).enabled &&
    new.testBit f.index.val).map fun f => ⟨f, (s.flag f).count, (s.flag f).latest⟩

theorem called_append (new : Nat) (s : State) (urgent : Bool) (l m : List Machine.Flag) :
    called new s urgent (l ++ m) = called new s urgent l ++ called new s urgent m := by
  simp [called]

/-- The notices called for read the flags they are of, and no other. -/
theorem called_congr {new : Nat} {s t : State} {urgent : Bool} {l : List Machine.Flag}
    (h : ∀ f ∈ l, t.flag f = s.flag f) : called new t urgent l = called new s urgent l := by
  unfold called
  rw [List.filter_congr fun f hf => by rw [h f hf]]
  exact List.map_congr_left fun f hf => by rw [h f (List.mem_of_mem_filter hf)]

/-- A set flag whose mark goes from clear to set is marked, and its notice offered. -/
theorem maskFlag_calls {n : Nat} {s : State} {f : Machine.Flag}
    (h : ((s.flag f).isSet && !(s.flag f).enabled && n.testBit f.index.val) = true) :
    s.maskFlag n f = (s.setFlag f { s.flag f with enabled := n.testBit f.index.val }).offerNotice
      ⟨f, (s.flag f).count, (s.flag f).latest⟩ := if_pos h

/-- Any other flag is marked, and no notice formed. -/
theorem maskFlag_silent {n : Nat} {s : State} {f : Machine.Flag}
    (h : ¬ ((s.flag f).isSet && !(s.flag f).enabled && n.testBit f.index.val) = true) :
    s.maskFlag n f = s.setFlag f { s.flag f with enabled := n.testBit f.index.val } := if_neg h

theorem maskFlag_flag (n : Nat) (s : State) (f g : Machine.Flag) :
    (s.maskFlag n f).flag g =
      if g = f then { s.flag g with enabled := n.testBit g.index.val } else s.flag g := by
  have marked : (s.maskFlag n f).flag g =
      (s.setFlag f { s.flag f with enabled := n.testBit f.index.val }).flag g := by
    by_cases calls : ((s.flag f).isSet && !(s.flag f).enabled && n.testBit f.index.val) = true
    · rw [maskFlag_calls calls, offerNotice_flag]
    · rw [maskFlag_silent calls]
  rw [marked, setFlag_flag]
  by_cases here : g = f
  · subst here; rfl
  · simp only [if_neg here]

/-- Every flag takes its mark from the new mask. -/
theorem maskFlags_flag (n : Nat) (s : State) (g : Machine.Flag) :
    (allFlags.foldl (State.maskFlag n) s).flag g =
      { s.flag g with enabled := n.testBit g.index.val } := by
  rw [foldl_flag (v := fun g a => { a with enabled := n.testBit g.index.val }) (maskFlag_flag n)
    (fun _ _ => rfl), if_pos (mem_allFlags g)]

/-- One flag's mark and notice change the EVU and its two counters alone. -/
theorem maskFlag_outside (n : Nat) (v : Evu) (k : EvuCounters) (s : State) (f : Machine.Flag) :
    ({ s.maskFlag n f with evu := v, counters.evu := k } : State) =
      { s with evu := v, counters.evu := k } := by
  by_cases calls : ((s.flag f).isSet && !(s.flag f).enabled && n.testBit f.index.val) = true
  · rw [maskFlag_calls calls, offerNotice_eq]; rfl
  · rw [maskFlag_silent calls]; rfl

/-- SET EVENT MASK changes the EVU and its two counters alone. -/
theorem maskFlags_eq (n : Nat) (s : State) :
    let t := allFlags.foldl (State.maskFlag n) s
    t = { s with evu := t.evu, counters := { s.counters with evu := t.counters.evu } } := by
  have outside := foldl_keeps (f := State.maskFlag n)
    (fun t => ({ t with evu := s.evu, counters.evu := s.counters.evu } : State))
    (maskFlag_outside n s.evu s.counters.evu) allFlags s
  generalize allFlags.foldl (State.maskFlag n) s = t at outside ⊢
  exact congrArg (fun u : State =>
    { u with evu := t.evu, counters := { u.counters with evu := t.counters.evu } }) outside

/-- The notice a new mask calls for of one flag, if it does. -/
theorem called_singleton (new : Nat) (s : State) (urgent : Bool) (f : Machine.Flag) :
    called new s urgent [f] =
      if f.urgent = urgent ∧
          ((s.flag f).isSet && !(s.flag f).enabled && new.testBit f.index.val) = true then
        [⟨f, (s.flag f).count, (s.flag f).latest⟩]
      else [] := by
  simp only [called, List.filter_cons, List.filter_nil, Bool.and_assoc, Bool.and_eq_true, beq_iff_eq]
  split <;> rfl

/-- A queue within its 16 places takes of one flag's notice what there is room for. -/
theorem maskFlag_noticeQueue {urgent : Bool} {s : State}
    (fits : (noticeQueue urgent s).length ≤ 16) (n : Nat) (f : Machine.Flag) :
    noticeQueue urgent (s.maskFlag n f) = noticeQueue urgent s ++
      (called n s urgent [f]).take (16 - (noticeQueue urgent s).length) := by
  have kept : ∀ v, noticeQueue urgent (s.setFlag f v) = noticeQueue urgent s := by
    intro v; cases urgent <;> rfl
  rw [called_singleton]
  by_cases calls : ((s.flag f).isSet && !(s.flag f).enabled && n.testBit f.index.val) = true
  · rw [maskFlag_calls calls, offerNotice_noticeQueue, kept]
    by_cases mine : f.urgent = urgent
    · by_cases free : (noticeQueue urgent s).length < 16
      · obtain ⟨k, room⟩ := Nat.exists_eq_add_one.mpr (Nat.sub_pos_of_lt free)
        simp [mine, free, calls, room]
      · have full : 16 - (noticeQueue urgent s).length = 0 :=
          Nat.sub_eq_zero_of_le (Nat.not_lt.mp free)
        simp [mine, free, full]
    · simp [mine]
  · rw [maskFlag_silent calls, kept, if_neg fun h => calls h.2, List.take_nil, List.append_nil]

/-- Items offered in two lots fill a queue as the lots together do. -/
theorem append_take_take {α : Type} (q a b : List α) (places : Nat) :
    q ++ a.take (places - q.length) ++
        b.take (places - (q ++ a.take (places - q.length)).length) =
      q ++ (a ++ b).take (places - q.length) := by
  have room : places - (q ++ a.take (places - q.length)).length =
      places - q.length - a.length := by
    rw [List.length_append, List.length_take]
    omega
  rw [room, List.take_append, List.append_assoc]

/-- The flags one after another: a queue within its 16 places takes of the notices called for, in
flag order, what there is room for. -/
theorem maskFlags_noticeQueue {urgent : Bool} (n : Nat) {l : List Machine.Flag} (once : l.Nodup)
    {s : State} (fits : (noticeQueue urgent s).length ≤ 16) :
    noticeQueue urgent (l.foldl (State.maskFlag n) s) = noticeQueue urgent s ++
      (called n s urgent l).take (16 - (noticeQueue urgent s).length) := by
  induction l generalizing s with
  | nil => simp [called]
  | cons f l ih =>
    obtain ⟨apart, once⟩ := List.nodup_cons.mp once
    have first := maskFlag_noticeQueue fits n f
    have fits' : (noticeQueue urgent (s.maskFlag n f)).length ≤ 16 := by
      rw [first, List.length_append, List.length_take]
      omega
    have later : called n (s.maskFlag n f) urgent l = called n s urgent l :=
      called_congr fun g hg => by
        rw [maskFlag_flag, if_neg fun e : g = f => apart (e ▸ hg)]
    rw [List.foldl_cons, ih once fits', later, first, append_take_take]
    exact congrArg (fun m => _ ++ List.take _ m) (called_append n s urgent [f] l).symm

theorem setEventMask_range {args : List Byte} (h : 2 ^ 18 ≤ ofBytes args) (s : State) :
    s.setEventMask args = s.answer .range :=
  if_neg (by simpa [flagSetInRange] using h)

theorem setEventMask_replaced {args : List Byte} (h : ofBytes args < 2 ^ 18) (s : State) :
    s.setEventMask args =
      ⟨allFlags.foldl (State.maskFlag (ofBytes args)) s, .done, s.mask⟩ :=
  if_pos (by simpa [flagSetInRange] using h)

/-! ### The two commands (R180) -/

section
variable {s : State} {c : Command} {rest : List Command} {args : List Byte} {a : Answer}
  (hw : s.Waits c rest)
include hw

theorem exec_clearEvents (hc : c.code = 0x13) (ha : c.args = args) (hn : args.length = 3)
    (h : (acting rest s).clearEvents args = a) (mode : a.state.scs.mode = s.scs.mode)
    (references : a.state.rfs = s.rfs) (tables : a.state.tbs = s.tbs) :
    exec .clearEvents s = .next (withReply c a) := by
  subst ha
  have row : c.row = .clearEvents := by simp [Command.row, hc]
  exact congrArg Host.Outcome.next (event_argumentsOf hw row hn h mode references tables)

theorem exec_setEventMask (hc : c.code = 0x14) (ha : c.args = args) (hn : args.length = 3)
    (h : (acting rest s).setEventMask args = a) (mode : a.state.scs.mode = s.scs.mode)
    (references : a.state.rfs = s.rfs) (tables : a.state.tbs = s.tbs) :
    exec .setEventMask s = .next (withReply c a) := by
  subst ha
  have row : c.row = .setEventMask := by simp [Command.row, hc]
  exact congrArg Host.Outcome.next (event_argumentsOf hw row hn h mode references tables)

end

/-- Settles O57: a walk over the flags that clears those named. -/
theorem clearEventsClearsNamedFlags : Obligations.ClearEventsClearsNamedFlags := by
  unfold Obligations.ClearEventsClearsNamedFlags
  intro s c rest high mid low hw hc ha named
  have number : ofBytes [high, mid, low] = named := ofBytes_three high mid low
  refine ⟨fun beyond => ?_, fun within => ?_⟩
  · exact exec_clearEvents hw hc ha rfl (clearEvents_range (number ▸ beyond) _) rfl rfl rfl
  · have cleared := clearEvents_named (number ▸ within) (acting rest s)
    rw [number] at cleared
    have flags := clearFlags_flag named (acting rest s)
    have frame := clearFlags_eq named (acting rest s)
    generalize allFlags.foldl (State.clearFlag named) (acting rest s) = x at cleared flags frame
    refine ⟨_, exec_clearEvents hw hc ha rfl cleared (by rw [frame]; rfl) (by rw [frame]; rfl)
      (by rw [frame]; rfl), flags, ?_⟩
    exact congrArg (fun x => withReply c ⟨x, .done, _⟩) frame

/-- Settles O58: a walk over the flags that marks each and offers the notices called for. -/
theorem setEventMaskReplacesTheMask : Obligations.SetEventMaskReplacesTheMask := by
  unfold Obligations.SetEventMaskReplacesTheMask
  intro s c rest high mid low hw hc ha new formed
  have number : ofBytes [high, mid, low] = new := ofBytes_three high mid low
  refine ⟨fun beyond => ?_, fun within urgentFits routineFits => ?_⟩
  · exact exec_setEventMask hw hc ha rfl (setEventMask_range (number ▸ beyond) _) rfl rfl rfl
  · have replaced := setEventMask_replaced (number ▸ within) (acting rest s)
    rw [number] at replaced
    have once : allFlags.Nodup := by decide
    have flags := maskFlags_flag new (acting rest s)
    have urgent := maskFlags_noticeQueue (urgent := true) new once (s := acting rest s) urgentFits
    have routine :=
      maskFlags_noticeQueue (urgent := false) new once (s := acting rest s) routineFits
    have frame := maskFlags_eq new (acting rest s)
    generalize allFlags.foldl (State.maskFlag new) (acting rest s) = x at *
    dsimp only at frame
    refine ⟨_, exec_setEventMask hw hc ha rfl replaced (by rw [frame]; rfl) (by rw [frame]; rfl)
      (by rw [frame]; rfl), flags, urgent, routine, ?_, ?_⟩
    · rw [frame]; rfl
    · rw [frame]; rfl

end Sys2Proof.Proofs
end

section
/-! PROOFS. Frames and links: the envelope read back by the frame check (O12), a frame that fails a
step (O13), the offers to the relay queue (O14) and to the command queue (O16), and the M-link's
lock with the ends of frames (O18). -/

namespace Sys2Proof.Proofs

open Sys2Proof.Machine Sys2Proof.Laws

/-! ### The frame check (R173, R174) -/

/-- The check separates the body from a CRC that agrees with it. -/
theorem checkFrame_crc (link : Link) (body : List Byte) :
    checkFrame link (body ++ digits 2 (crc16 body).toNat) = checkBody link body := by
  have length : (body ++ digits 2 (crc16 body).toNat).length - 2 = body.length := by simp
  unfold checkFrame
  dsimp only
  rw [length, List.drop_left, List.take_left, if_pos rfl]

/-- A length within the largest payload is carried whole by the two bytes of its field. -/
theorem be_payloadLength {n : Nat} (h : n ≤ Config.largestPayload) :
    ∃ high low, be 2 n = [high, low] ∧ ofBytes [high, low] = n := by
  have fits : n < 256 ^ 2 := h.trans_lt (by decide)
  exact ⟨_, _, be_fits fits, (ofBytes_digits 2 n).trans (Nat.mod_eq_of_lt fits)⟩

/-- The body of a frame of an inbound kind passes the length and kind steps. -/
theorem checkBody_body {link : Link} {f : Frame} (kind : f.kind ∈ inboundKinds link)
    (fits : f.payload.length ≤ Config.largestPayload)
    (record : f.kind = 0x11 → 9 ≤ f.payload.length) : checkBody link f.body = .passed f := by
  obtain ⟨high, low, field, number⟩ := be_payloadLength fits
  have sound : ¬ (Config.largestPayload < f.payload.length ∨
      f.payload.length ≠ f.payload.length ∨ (f.kind = 0x11 ∧ f.payload.length < 9)) := by
    rintro (long | differs | ⟨shot, short⟩)
    · exact absurd fits (Nat.not_le.mpr long)
    · exact differs rfl
    · exact absurd (record shot) (Nat.not_le.mpr short)
  rw [Frame.body, field]
  simp only [List.cons_append, List.nil_append, checkBody, number]
  rw [if_neg sound, if_pos kind]

/-- Settles O12: the CRC step passes the body on, and the length it carries is the payload's. -/
theorem frameCheckReadsBackEveryFrame : Obligations.FrameCheckReadsBackEveryFrame := by
  unfold Obligations.FrameCheckReadsBackEveryFrame
  intro link f kind fits record
  rw [Frame.bytes, checkFrame_crc]
  exact checkBody_body kind fits record

/-! ### A frame that arrives on a link in lock (R173) -/

/-- An event that leaves the mode, the references and the tables brings no drained report. -/
theorem next_event_unreported {s t : State} {f : State → State} (hr : s.resetHeld = false)
    (h : f s = t) (mode : t.scs.mode = s.scs.mode) (references : t.rfs = s.rfs)
    (tables : t.tbs = s.tbs) :
    Host.Outcome.next (s.event f) = (.next t : Host.Outcome State Fault Refusal) := by
  refine congrArg _ ?_
  rw [event_live hr, h]
  exact reportDrained_same mode (by rw [references]) (by rw [tables])

/-- A frame of the row's kind that passes the check goes to its owner, counted. -/
theorem receive_passed {link : Link} {bytes : List Byte} {f : Frame} {s : State} {kind : Byte}
    (owner : Frame → State → State) (hl : s.linkInLock link = true)
    (hf : checkFrame link bytes = .passed f) (hk : f.kind = kind) :
    s.receive link kind owner bytes = owner f (s.tally (countReceived link)) := by
  simp only [State.receive, hl, if_true, hf, hk]

section
variable {link : Link} {bytes : List Byte} {step : FrameStep} {s : State}
  (hl : s.linkInLock link = true) (hf : checkFrame link bytes = .failed step)
include hl hf

theorem receive_failed (kind : Byte) (owner : Frame → State → State) :
    s.receive link kind owner bytes = s.discardFrame link step := by
  simp only [State.receive, hl, if_true, hf]

theorem receiveFailing_failed : s.receiveFailing link bytes = s.discardFrame link step := by
  simp only [State.receiveFailing, hl, if_true, hf]

end

/-- Settles O13: every row of the link comes to the same discard. -/
theorem failingFrameIsDiscarded : Obligations.FailingFrameIsDiscarded := by
  unfold Obligations.FailingFrameIsDiscarded
  intro link bytes step s hr hl hf a m t
  have discarded : s.discardFrame link step = t := by cases link <;> cases step <;> rfl
  have row {f : State → State} (h : f s = s.discardFrame link step) :
      Host.Outcome.next (s.event f) = (.next t : Host.Outcome State Fault Refusal) :=
    next_event_unreported hr (h.trans discarded) (by simp [t]) (by simp [t]) (by simp [t])
  refine ⟨row (receiveFailing_failed hl hf), ?_, ?_⟩
  · rintro rfl
    exact ⟨row (receive_failed hl hf _ _), row (receive_failed hl hf _ _)⟩
  · rintro rfl
    exact ⟨row (receive_failed hl hf _ _), row (receive_failed hl hf _ _)⟩

/-! ### The relay queue (R176) -/

theorem offerRelay_joins {s : State} (h : s.mli.relayQueue.length < 16) (f : Frame) :
    s.offerRelay f =
      { s with mli.relayQueue := s.mli.relayQueue ++ [⟨f.flags, f.payload⟩] } := by
  simp only [State.offerRelay, offer, Config.relayPlaces, h, if_true]

theorem offerRelay_drops {s : State} (h : ¬ s.mli.relayQueue.length < 16) (f : Frame) :
    s.offerRelay f = s.tally fun k =>
      { k with mLink.concentratorDropped := inc32 k.mLink.concentratorDropped } := by
  simp only [State.offerRelay, offer, Config.relayPlaces, h, if_false]

/-- Settles O14: the offer to the relay queue in its two cases. -/
theorem concentratorMessageIsRelayed : Obligations.ConcentratorMessageIsRelayed := by
  unfold Obligations.ConcentratorMessageIsRelayed
  intro bytes f s hr hl hf hk
  have received := receive_passed (link := .aLink) (s := s) State.offerRelay hl hf hk
  split
  · next room =>
    exact next_event_unreported hr (received.trans (offerRelay_joins (s := s.tally _) room f))
      rfl rfl rfl
  · next full =>
    exact next_event_unreported hr (received.trans (offerRelay_drops (s := s.tally _) full f))
      rfl rfl rfl

/-! ### The command queue (R180) -/

section
variable {s : State} {f : Frame}

theorem offerCommand_joins {tag code : Byte} {args : List Byte}
    (payload : f.payload = tag :: code :: args) (room : s.cmu.commands.length < 4) :
    s.offerCommand f = { s with cmu.commands := s.cmu.commands ++ [⟨tag, code, args⟩] } := by
  simp only [State.offerCommand, payload, offer, Config.commandPlaces, room, if_true]

theorem offerCommand_overruns (whole : 2 ≤ f.payload.length) (full : 4 ≤ s.cmu.commands.length) :
    s.offerCommand f = (s.tally fun k =>
      { k with mLink.commandsOverrun := inc32 k.mLink.commandsOverrun }).raise
        .commandOverrun .none := by
  obtain ⟨tag, code, args, payload⟩ : ∃ tag code args, f.payload = tag :: code :: args := by
    match h : f.payload with
    | tag :: code :: args => exact ⟨tag, code, args, rfl⟩
    | [] | [_] => simp [h] at whole
  simp only [State.offerCommand, payload, offer, Config.commandPlaces, Nat.not_lt.mpr full,
    if_false]

theorem offerCommand_malformed (short : f.payload.length < 2) :
    s.offerCommand f = (s.tally fun k =>
      { k with mLink.malformedCommands := inc32 k.mLink.malformedCommands }).raise
        .linkFault .none := by
  unfold State.offerCommand
  split
  · next payload => simp [payload] at short
  · rfl

end

/-- Settles O16: the offer to the command queue in its three cases. -/
theorem commandFrameJoinsTheCommandQueue : Obligations.CommandFrameJoinsTheCommandQueue := by
  unfold Obligations.CommandFrameJoinsTheCommandQueue
  intro bytes f s hr hl hf hk m
  have received := receive_passed (link := .mLink) (s := s) State.offerCommand hl hf hk
  refine ⟨fun tag code args payload room => ?_, fun whole full => ?_, fun short => ?_⟩
  · exact next_event_unreported hr
      (received.trans (offerCommand_joins (s := s.tally _) payload room)) rfl rfl rfl
  · exact next_event_unreported hr
      (received.trans (offerCommand_overruns (s := s.tally _) whole full))
      (by simp) (by simp) (by simp)
  · exact next_event_unreported hr
      (received.trans (offerCommand_malformed (s := s.tally _) short))
      (by simp) (by simp) (by simp)

/-! ### The M-link's lock and the ends of frames (R177, R179) -/

/-- The M-link out of lock, the frame being sent aborted and counted. -/
def mLinkAborted (s : State) : State :=
  { s with
    mli.inLock := false
    mli.sending := .none
    counters.mLink.framesAborted :=
      if s.mli.sending.isSome then inc32 s.counters.mLink.framesAborted
      else s.counters.mLink.framesAborted }

theorem abortM_unlocked (s : State) :
    State.abortM { s with mli.inLock := false } = mLinkAborted s := by
  unfold State.abortM mLinkAborted
  cases sending : s.mli.sending with
  | some f => rfl
  | none => simp only [sending, Option.isSome_none, Bool.false_eq_true, if_false]

theorem loseMLock_eq {s : State} (h : s.mli.inLock = true) (partly : Bool) :
    s.loseMLock partly = if partly then
      { mLinkAborted s with
        counters.mLink.lengthErrors := inc32 s.counters.mLink.lengthErrors }.raise .linkFault .none
    else mLinkAborted s := by
  rw [State.loseMLock, if_pos h, abortM_unlocked]
  rfl

/-- Settles O18: each event reaches the M-link or the sender alone. -/
theorem mLinkLockAndFrameEnds : Obligations.MLinkLockAndFrameEnds := by
  unfold Obligations.MLinkLockAndFrameEnds
  refine ⟨fun s hr => ⟨next_event_unreported hr rfl rfl rfl rfl, fun lock partly => ?_⟩,
    fun s hr => ⟨next_event_unreported hr rfl rfl rfl rfl,
      next_event_unreported hr rfl rfl rfl rfl⟩⟩
  refine next_event_unreported hr (loseMLock_eq lock partly) ?_ ?_ ?_
  all_goals cases partly <;> simp

end Sys2Proof.Proofs
end

section
/-! PROOFS. The commands on the part as a whole: IDENTIFY (O49) and READ COUNTERS (O59). -/

namespace Sys2Proof.Proofs

open Sys2Proof.Machine Sys2Proof.Laws

/-! ### IDENTIFY (R181) -/

theorem identify_eq (s : State) :
    s.identify = ⟨s, .done, [0x49, 0x02, 0x08, 0x01, 0x08, 0x04, 0x10, 0x00]⟩ := by
  simp [State.identify, be_fits, digits]

/-- Settles O49: the two lengths of the arguments. -/
theorem identifyAnswersEightBytes : Obligations.IdentifyAnswersEightBytes := by
  unfold Obligations.IdentifyAnswersEightBytes
  intro s c rest hw hc
  have row : c.row = .identify := by simp [Command.row, hc]
  refine congrArg Host.Outcome.next ?_
  split
  · next bare => exact event_answer _ hw row _ _ ((if_pos bare).trans (identify_eq _))
  · next carries => exact event_answer _ hw row _ _ (if_neg carries)

/-! ### READ COUNTERS (R182) -/

theorem counters_list_length (k : Counters) : k.list.length = 121 := by
  simp [Counters.list, allChannels, ALinkCounters.list, MLinkCounters.list, ChannelCounters.list,
    TruCounters.list, ScsCounters.list, RpbCounters.list, TbsCounters.list, LduCounters.list,
    EvuCounters.list]

theorem counters_list_zero : Counters.zero.list = List.replicate 121 0 := by decide

/-- What READ COUNTERS answers: each counter in four bytes, then the length counter in six. -/
def countersData (s : State) : List Byte :=
  (s.counters.list.map (be 4)).flatten ++ be 6 s.tru.lengthCounter

theorem countersData_length (s : State) : (countersData s).length = 490 := by
  simp [countersData, List.length_flatten, Function.comp_def, counters_list_length]

section
variable (s : State)

theorem readCounters_reads : s.readCounters 0 = ⟨s, .done, countersData s⟩ := rfl

theorem readCounters_clears :
    s.readCounters 1 = ⟨s.tally fun _ => .zero, .done, countersData s⟩ := rfl

theorem readCounters_range {option : Nat} (h : 1 < option) :
    s.readCounters option = s.answer .range := if_pos h

end

/-- The one-byte form of READ COUNTERS. -/
theorem readCountersCommand_option {c : Command} {b : Byte} (h : c.args = [b]) (s : State) :
    s.readCountersCommand c = s.readCounters b.toNat := by
  rw [State.readCountersCommand, h]

theorem readCountersCommand_reads {c : Command} (h : c.args = [] ∨ c.args = [0]) (s : State) :
    s.readCountersCommand c = ⟨s, .done, countersData s⟩ := by
  rcases h with none | zero
  · rw [State.readCountersCommand, none]
    exact readCounters_reads s
  · rw [readCountersCommand_option zero]
    exact readCounters_reads s

/-- Settles O59: the option byte in its three cases. -/
theorem readCountersAnswersThemAll : Obligations.ReadCountersAnswersThemAll := by
  unfold Obligations.ReadCountersAnswersThemAll
  intro s c rest hw hc
  have row : c.row = .readCounters := by simp [Command.row, hc]
  refine ⟨countersData s, countersData_length s, rfl, fun reads => ?_, fun clears => ?_,
    fun b beyond ha => ?_⟩
  · exact congrArg _ (event_answer _ hw row _ _ (readCountersCommand_reads reads _))
  · have cleared : (acting rest s).readCountersCommand c =
        ⟨(acting rest s).tally fun _ => .zero, .done, countersData s⟩ :=
      (readCountersCommand_option clears _).trans (readCounters_clears _)
    have event := event_acts (act := fun c s => s.readCountersCommand c) hw row cleared
      ⟨rfl, rfl, rfl⟩
    exact ⟨_, congrArg Host.Outcome.next event, rfl, counters_list_zero⟩
  · exact congrArg _ (event_answer _ hw row _ _
      ((readCountersCommand_option ha _).trans (readCounters_range _ beyond)))

end Sys2Proof.Proofs
end

section
/-! PROOFS. The machine as a whole: the command a step takes (O1), the part held in RESET (O3), and
the queue of waiting commands under every row of the table (O2). -/

namespace Sys2Proof.Proofs

open Sys2Proof.Machine Sys2Proof.Laws

/-- Settles O1: by the form of the step on a queue that holds a command. -/
theorem stepTakesTheFrontCommand : Obligations.StepTakesTheFrontCommand := by
  unfold Obligations.StepTakesTheFrontCommand
  intro c rest s front
  rw [step, front]

/-- Settles O3: every row but the two resets is an event, which a held part does not take; the two
rows of the lines move their line first. -/
theorem heldPartStandsStill : Obligations.HeldPartStandsStill := by
  unfold Obligations.HeldPartStandsStill
  intro c s held notReset notRelease
  cases c
  case hardReset => exact absurd rfl notReset
  case resetRelease => exact absurd rfl notRelease
  case pulseEdge high =>
    exact congrArg Host.Outcome.next
      (event_held (s := { s with pins.lengthPulse := high }) held State.takePulse)
  case shellDetectChange high =>
    exact congrArg Host.Outcome.next
      (event_held (s := { s with pins.shellDetect := high }) held State.takeDetect)
  all_goals exact congrArg Host.Outcome.next (event_held held _)

/-! ### Events and commands -/

theorem event_pending {f : State → State} (h : ∀ s, (f s).pending = s.pending) (s : State) :
    (s.event f).pending = s.pending := by
  unfold State.event
  split
  · rfl
  · rw [reportDrained_pending, h]

theorem takeCommand_pending {act : Command → State → Answer}
    (h : ∀ c s, (act c s).state.pending = s.pending) (row : Instr) (s : State) :
    (s.takeCommand row act).pending = s.pending := by
  unfold State.takeCommand
  repeat' split
  · rfl
  · exact h _ _
  · rfl

theorem noArguments_pending {act : State → Answer}
    (h : ∀ s, (act s).state.pending = s.pending) (c : Command) (s : State) :
    (noArguments act c s).state.pending = s.pending := by
  rcases noArguments_cases act c s with same | acts
  · rw [same]
  · rw [acts, h]

theorem argumentsOf_pending {act : List Byte → State → Answer}
    (h : ∀ args s, (act args s).state.pending = s.pending) (n : Nat) (c : Command) (s : State) :
    (argumentsOf n act c s).state.pending = s.pending := by
  rcases argumentsOf_cases n act c s with same | acts
  · rw [same]
  · rw [acts, h]

/-! ### Frames received (R173, R176, R177, R180) -/

theorem receive_pending {owner : Frame → State → State}
    (h : ∀ f s, (owner f s).pending = s.pending) (link : Link) (kind : Byte) (bytes : List Byte)
    (s : State) : (s.receive link kind owner bytes).pending = s.pending := by
  unfold State.receive
  repeat' split
  · exact discardFrame_pending _ _ s
  · exact h _ _
  · rfl
  · rfl

theorem receiveFailing_pending (link : Link) (bytes : List Byte) (s : State) :
    (s.receiveFailing link bytes).pending = s.pending := by
  unfold State.receiveFailing
  repeat' split
  · exact discardFrame_pending _ _ s
  · rfl
  · rfl

theorem offerRelay_pending (f : Frame) (s : State) : (s.offerRelay f).pending = s.pending := by
  unfold State.offerRelay
  split <;> rfl

theorem offerRelayed_pending (f : Frame) (s : State) : (s.offerRelayed f).pending = s.pending := by
  unfold State.offerRelayed
  split <;> simp

theorem offerCommand_pending (f : Frame) (s : State) : (s.offerCommand f).pending = s.pending := by
  unfold State.offerCommand
  repeat' split
  all_goals simp

/-! ### Lock (R37, R175, R179) -/

@[simp] theorem discardPartial_pending (link : Link) (partly : Bool) (s : State) :
    (s.discardPartial link partly).pending = s.pending := by
  unfold State.discardPartial
  split <;> simp

@[simp] theorem changeALock_pending (inLock : Bool) (s : State) :
    (s.changeALock inLock).pending = s.pending := by
  simp [State.changeALock]

theorem loseALock_pending (partly : Bool) (s : State) :
    (s.loseALock partly).pending = s.pending := by
  unfold State.loseALock
  split <;> simp

theorem gainALock_pending (s : State) : s.gainALock.pending = s.pending := by
  unfold State.gainALock
  split <;> simp

theorem loseMLock_pending (partly : Bool) (s : State) :
    (s.loseMLock partly).pending = s.pending := by
  unfold State.loseMLock State.abortM
  repeat' split
  all_goals simp

/-! ### Frames sent (R177, R179) -/

theorem takeRequest_pending (s : State) : s.takeRequest.pending = s.pending := by
  unfold State.takeRequest
  split <;> simp

theorem takeRelayed_pending (s : State) : s.takeRelayed.pending = s.pending := by
  unfold State.takeRelayed
  repeat' split
  all_goals simp

theorem aReady_pending {f : State → State} (h : ∀ s, (f s).pending = s.pending) (s : State) :
    (if s.aReady then f s else s).pending = s.pending := by
  split
  · exact h s
  · rfl

theorem takeReply_pending (s : State) : s.takeReply.pending = s.pending := by
  unfold State.takeReply
  repeat' split
  all_goals rfl

theorem takeNotice_pending (s : State) : s.takeNotice.pending = s.pending := by
  unfold State.takeNotice
  repeat' split
  all_goals rfl

theorem takeReportFrame_pending (s : State) : s.takeReportFrame.pending = s.pending := by
  unfold State.takeReportFrame
  repeat' split
  all_goals rfl

theorem takeSample_pending (s : State) : s.takeSample.pending = s.pending := by
  unfold State.takeSample
  repeat' split
  all_goals rfl

theorem takeRelay_pending (s : State) : s.takeRelay.pending = s.pending := by
  unfold State.takeRelay
  repeat' split
  all_goals rfl

theorem takeForwarded_pending (s : State) : s.takeForwarded.pending = s.pending := by
  unfold State.takeForwarded
  repeat' split
  all_goals rfl

/-! ### The lines and the expiries -/

theorem takePulse_pending (s : State) : s.takePulse.pending = s.pending := by
  unfold State.takePulse State.countEdge
  dsimp only
  repeat' split
  all_goals simp

theorem takeDetect_pending (s : State) : s.takeDetect.pending = s.pending := by
  unfold State.takeDetect
  repeat' split
  all_goals simp

theorem debounceOut_pending (s : State) : s.debounceOut.pending = s.pending := by
  unfold State.debounceOut State.takeChange
  dsimp only
  repeat' split
  all_goals simp

theorem intervalOut_pending (c : Fin 8) (s : State) : (s.intervalOut c).pending = s.pending := by
  unfold State.intervalOut
  split <;> simp

theorem requestOut_pending (c : Fin 8) (s : State) : (s.requestOut c).pending = s.pending := by
  unfold State.requestOut
  split <;> simp

theorem dwellOut_pending (i : Fin 4) (s : State) : (s.dwellOut i).pending = s.pending := by
  unfold State.dwellOut
  split <;> simp

theorem tailOut_pending (i : Fin 4) (s : State) : (s.tailOut i).pending = s.pending := by
  unfold State.tailOut
  split <;> simp

theorem drainOut_pending (s : State) : s.drainOut.pending = s.pending := by
  unfold State.drainOut
  split <;> simp

theorem takeDrainedReport_pending (s : State) : s.takeDrainedReport.pending = s.pending := by
  unfold State.takeDrainedReport
  dsimp only
  repeat' split
  all_goals simp

/-! ### Shot records (R1) -/

theorem acceptShot_pending (i : Fin 4) (sh : Shell) (e : ChannelEntry) (r : ShotRecord)
    (shot : Shot) (w : WallResult) (t : Nat) (s : State) :
    (s.acceptShot i sh e r shot w t).pending = s.pending := by
  unfold State.acceptShot State.raiseExcursion
  dsimp only
  repeat' split
  all_goals simp

theorem gauge_pending (c : Fin 8) (e : ChannelEntry) (r : ShotRecord) (i : Fin 4) (position : Nat)
    (times : EchoTimes) (transit t : Nat) (s : State) :
    (s.gauge c e r i position times transit t).pending = s.pending := by
  unfold State.gauge
  dsimp only
  repeat' split
  · rfl
  · rw [finish_pending, acceptShot_pending]
  · simp

theorem rejectAssigned_pending (c : Fin 8) (r : ShotRecord) (i : Fin 4) (o : ShotOutcome)
    (times : EchoTimes) (s : State) : (s.rejectAssigned c r i o times).pending = s.pending := by
  simp [State.rejectAssigned]

theorem timeAndGauge_pending (c : Fin 8) (e : ChannelEntry) (r : ShotRecord) (i : Fin 4)
    (position : Nat) (s : State) : (s.timeAndGauge c e r i position).pending = s.pending := by
  unfold State.timeAndGauge
  dsimp only
  repeat' split
  · exact rejectAssigned_pending _ _ _ _ _ s
  · exact rejectAssigned_pending _ _ _ _ _ s
  · exact gauge_pending _ _ _ _ _ _ _ _ _

theorem measure_pending (c : Fin 8) (e : ChannelEntry) (r : ShotRecord) (gap : Nat) (s : State) :
    (s.measure c e r gap).pending = s.pending := by
  unfold State.measure
  dsimp only
  split
  · simp
  · simp
  · rw [timeAndGauge_pending, shellAt_pending, etuChannel_pending]

theorem rejectReference_pending (c : Fin 8) (r : ShotRecord) (o : ShotOutcome) (times : EchoTimes)
    (s : State) : (s.rejectReference c r o times).pending = s.pending := by
  simp [State.rejectReference]

theorem acceptReference_pending (c : Fin 8) (r : ShotRecord) (times : EchoTimes) (transit : Nat)
    (s : State) : (s.acceptReference c r times transit).pending = s.pending := by
  simp [State.acceptReference]

theorem reference_pending (c : Fin 8) (e : ChannelEntry) (r : ShotRecord) (s : State) :
    (s.reference c e r).pending = s.pending := by
  unfold State.reference
  dsimp only
  repeat' split
  · exact rejectReference_pending _ _ _ _ s
  · exact acceptReference_pending _ _ _ _ s
  · exact rejectReference_pending _ _ _ _ s
  · simp

theorem passRecord_pending (c : Fin 8) (e : ChannelEntry) (r : ShotRecord) (s : State) :
    (s.passRecord c e r).pending = s.pending := by
  unfold State.passRecord
  dsimp only
  split
  · exact measure_pending _ _ _ _ _
  · exact reference_pending _ _ _ _

theorem takeRecord_pending (payload : List Byte) (s : State) :
    (s.takeRecord payload).pending = s.pending := by
  have unknown : s.dropUnknownChannel.pending = s.pending := by simp [State.dropUnknownChannel]
  have badLength (c : Fin 8) : (s.dropBadLength c).pending = s.pending := by
    simp [State.dropBadLength]
  have forMode (c : Fin 8) (r : ShotRecord) (o : ShotOutcome) :
      (s.dropForMode c r o).pending = s.pending := by simp [State.dropForMode]
  unfold State.takeRecord
  dsimp only
  repeat' split
  · exact unknown
  · exact badLength _
  · exact forMode _ _ _
  · exact unknown
  · exact badLength _
  · exact forMode _ _ _
  · exact passRecord_pending _ _ _ s

/-! ### The commands of the Command Unit (R180) -/

theorem load_pending {write : List Int → State → State}
    (h : ∀ v s, (write v s).pending = s.pending) (specs : List FieldSpec)
    (tie : List Int → Nat → Bool) (args : List Byte) (s : State) :
    (s.load specs tie write args).state.pending = s.pending := by
  unfold State.load
  dsimp only
  repeat' split
  · rfl
  · rfl
  · exact h _ s

theorem loadVelocity_pending (c : Command) (s : State) :
    (s.loadVelocity c).state.pending = s.pending := by
  unfold State.loadVelocity
  dsimp only
  split
  · exact argumentsOf_pending (load_pending (fun _ _ => stageVelocity_pending _ _ _) _ _) _ c s
  · rfl

theorem loadShortForm_pending (c : Command) (s : State) :
    (s.loadShortForm c).state.pending = s.pending := by
  unfold State.loadShortForm
  dsimp only
  split
  · exact load_pending (fun _ _ => stageChannel_pending _ _ _) _ _ _ s
  · exact load_pending (fun _ _ => stageVelocity_pending _ _ _) _ _ _ s
  · exact load_pending (fun _ _ => stageBank_pending _ _ _) _ _ _ s
  · exact load_pending (fun _ _ => stageLine_pending _ _) _ _ _ s

theorem readTable_pending (args : List Byte) (s : State) :
    (s.readTable args).state.pending = s.pending := by
  unfold State.readTable
  dsimp only
  split <;> rfl

theorem activate_pending (s : State) : s.activate.state.pending = s.pending := by
  unfold State.activate
  repeat' split
  · rfl
  · rfl
  · rfl
  · exact applyActivation_pending s

theorem selectBank_pending (args : List Byte) (s : State) :
    (s.selectBank args).state.pending = s.pending := by
  unfold State.selectBank
  split <;> rfl

theorem park_pending (s : State) : s.park.state.pending = s.pending := by
  unfold State.park
  split <;> simp

theorem unpark_pending (s : State) : s.unpark.state.pending = s.pending := by
  unfold State.unpark
  split <;> simp

theorem fetchReport_pending (args : List Byte) (s : State) :
    (s.fetchReport args).state.pending = s.pending := by
  unfold State.fetchReport
  dsimp only
  repeat' split
  all_goals rfl

theorem releaseReport_pending (args : List Byte) (s : State) :
    (s.releaseReport args).state.pending = s.pending := by
  unfold State.releaseReport
  repeat' split
  all_goals rfl

theorem armCapture_pending (args : List Byte) (s : State) :
    (s.armCapture args).state.pending = s.pending := by
  unfold State.armCapture
  repeat' split
  all_goals rfl

theorem readCapture_pending (args : List Byte) (s : State) :
    (s.readCapture args).state.pending = s.pending := by
  unfold State.readCapture
  repeat' split
  all_goals rfl

/-- What every flag's change leaves, the flags one after another leave. -/
theorem flags_pending {f : State → Flag → State} (h : ∀ s g, (f s g).pending = s.pending)
    (l : List Flag) (s : State) : (l.foldl f s).pending = s.pending := by
  induction l generalizing s with
  | nil => rfl
  | cons g l ih => exact (ih _).trans (h s g)

theorem clearEvents_pending (args : List Byte) (s : State) :
    (s.clearEvents args).state.pending = s.pending := by
  unfold State.clearEvents
  dsimp only
  split
  · exact flags_pending (fun s g => clearFlag_pending _ g s) _ s
  · rfl

theorem setEventMask_pending (args : List Byte) (s : State) :
    (s.setEventMask args).state.pending = s.pending := by
  unfold State.setEventMask
  dsimp only
  split
  · exact flags_pending (fun s g => maskFlag_pending _ g s) _ s
  · rfl

theorem readCountersCommand_pending (c : Command) (s : State) :
    (s.readCountersCommand c).state.pending = s.pending := by
  have read (option : Nat) : (s.readCounters option).state.pending = s.pending := by
    unfold State.readCounters
    dsimp only
    repeat' split
    all_goals rfl
  unfold State.readCountersCommand
  split
  · exact read _
  · exact read _
  · rfl

/-- RESTART sets the blocks afresh, and the commands that wait are in none of them (R183). -/
theorem restartCommand_pending (s : State) : s.restartCommand.state.pending = s.pending := by
  have reload (c : Fin 8) (s : State) :
      (if s.enabled c then s.reloadInterval c else s).pending = s.pending := by split <;> simp
  have reloaded (ran : Bool) (s : State) : (s.reloadStopped ran).pending = s.pending := by
    unfold State.reloadStopped
    split
    · rfl
    · exact forChannels_keeps (·.pending) _ reload s
  show s.restart.pending = s.pending
  rw [restart_eq, examine_pending, reloaded,
    forChannels_keeps (·.pending) _ (fun c s => dropRequest_pending c s)]
  rfl

/-! ### The rows -/

/-- Every row of the table leaves the commands that wait. -/
theorem exec_pending {c : Instr} {s t : State} (h : exec c s = .next t) :
    t.pending = s.pending := by
  have command {act : Command → State → Answer} (row : Instr)
      (ha : ∀ c s, (act c s).state.pending = s.pending) :
      (s.event (State.takeCommand row act)).pending = s.pending :=
    event_pending (takeCommand_pending ha row) s
  cases c <;> cases h
  case shotRecord =>
    exact event_pending (receive_pending (fun f => takeRecord_pending f.payload) _ _ _) s
  case concentratorMessage => exact event_pending (receive_pending offerRelay_pending _ _ _) s
  case relayMessage => exact event_pending (receive_pending offerRelayed_pending _ _ _) s
  case commandFrame => exact event_pending (receive_pending offerCommand_pending _ _ _) s
  case pulseEdge => exact event_pending takePulse_pending _
  case shellDetectChange => exact event_pending takeDetect_pending _
  case debounceExpiry => exact event_pending debounceOut_pending s
  case referenceIntervalExpiry channel => exact event_pending (intervalOut_pending channel) s
  case referenceTimeout channel => exact event_pending (requestOut_pending channel) s
  case dwellLimit context => exact event_pending (dwellOut_pending context) s
  case tailTimeout context => exact event_pending (tailOut_pending context) s
  case parkDrainLimit => exact event_pending drainOut_pending s
  case drainedReport => exact event_pending takeDrainedReport_pending s
  case aLinkLockLost partly => exact event_pending (loseALock_pending partly) s
  case aLinkLockGained => exact event_pending gainALock_pending s
  case mLinkLockLost partly => exact event_pending (loseMLock_pending partly) s
  case mLinkLockGained => exact event_pending gainMLock_pending s
  case sendReferenceRequest => exact event_pending (aReady_pending takeRequest_pending) s
  case sendRelayedMessage => exact event_pending (aReady_pending takeRelayed_pending) s
  case sendReply => exact event_pending takeReply_pending s
  case sendNotice => exact event_pending takeNotice_pending s
  case sendReportFrame => exact event_pending takeReportFrame_pending s
  case sendWallSample => exact event_pending takeSample_pending s
  case sendConcentratorMessage => exact event_pending takeRelay_pending s
  case sendForwardedRecord => exact event_pending takeForwarded_pending s
  case hardReset => rfl
  case identify => exact command _ (noArguments_pending fun _ => rfl)
  case loadChannel => exact command _ (argumentsOf_pending
    (load_pending (fun _ _ => stageChannel_pending _ _ _) _ _) _)
  case loadVelocity => exact command _ loadVelocity_pending
  case loadBank => exact command _ (argumentsOf_pending
    (load_pending (fun _ _ => stageBank_pending _ _ _) _ _) _)
  case loadLine => exact command _ (argumentsOf_pending
    (load_pending (fun _ _ => stageLine_pending _ _) _ _) _)
  case loadShortForm => exact command _ loadShortForm_pending
  case readTable => exact command _ (argumentsOf_pending readTable_pending 3)
  case activate => exact command _ (noArguments_pending activate_pending)
  case selectBank => exact command _ (argumentsOf_pending selectBank_pending 1)
  case forceHead => exact command _ (noArguments_pending headEnd_pending)
  case forceTail => exact command _ (noArguments_pending tailEnd_pending)
  case park => exact command _ (noArguments_pending park_pending)
  case unpark => exact command _ (noArguments_pending unpark_pending)
  case fetchReport => exact command _ (argumentsOf_pending fetchReport_pending 6)
  case releaseReport => exact command _ (argumentsOf_pending releaseReport_pending 4)
  case readSnapshot => exact command _ (noArguments_pending fun _ => rfl)
  case armCapture => exact command _ (argumentsOf_pending armCapture_pending 3)
  case readCapture => exact command _ (argumentsOf_pending readCapture_pending 2)
  case readEvents => exact command _ (noArguments_pending fun _ => rfl)
  case clearEvents => exact command _ (argumentsOf_pending clearEvents_pending 3)
  case setEventMask => exact command _ (argumentsOf_pending setEventMask_pending 3)
  case readCounters => exact command _ readCountersCommand_pending
  case restart => exact command _ (noArguments_pending restartCommand_pending)
  case unknownCommand => exact command _ fun _ _ => rfl
  case linkFrameDiscarded link frame => exact event_pending (receiveFailing_pending link frame) s
  case frameSendComplete link => exact event_pending (endFrame_pending link) s
  case resetRelease => split <;> rfl

/-- Settles O2, row by row: no operation of the part writes the queue. -/
theorem commandsLeaveTheQueue : Obligations.CommandsLeaveTheQueue := by
  unfold Obligations.CommandsLeaveTheQueue
  exact fun c s t h => exec_pending h

end Sys2Proof.Proofs
end

section
/-! PROOFS. SHELL DETECT (O28): the line moves, and a departure begins, is abandoned or goes on
(R61, R62). -/

namespace Sys2Proof.Proofs

open Sys2Proof.Machine Sys2Proof.Laws

/-! ### The raw level (R61) -/

/-- The raw level is ACTIVE where the line stands at the level that the polarity names. -/
theorem rawLevel_eq (s : State) : s.rawLevel =
    if s.pins.shellDetect =
        decide ((s.line.map (·.polarity)).getD .activeHigh = Polarity.activeHigh) then .active
      else .inactive := by
  unfold State.rawLevel
  cases (s.line.map (·.polarity)).getD .activeHigh <;> cases s.pins.shellDetect <;> rfl

/-! ### The line (R62 steps 1 and 3) -/

/-- A level that agrees with the detector's abandons a departure, if one has begun. -/
theorem takeDetect_agreeing {s : State} (h : s.rawLevel = s.tru.detectorLevel) : s.takeDetect =
    match s.tru.debounce with
    | .none => s
    | .some _ =>
      { s with
        tru := { s.tru with debounce := .none }
        counters.tru.changesAbandoned := inc32 s.counters.tru.changesAbandoned } := by
  rw [State.takeDetect, if_pos h]
  cases s.tru.debounce <;> rfl

/-- A level that differs from the detector's begins a departure, unless one has begun. -/
theorem takeDetect_differing {s : State} (h : s.rawLevel ≠ s.tru.detectorLevel) : s.takeDetect =
    match s.tru.debounce with
    | .none => { s with tru := { s.tru with debounce := .some (s.lineField (·.debounce)) } }
    | .some _ => s := by
  rw [State.takeDetect, if_neg h, State.startDeparture]
  cases hd : s.tru.debounce with
  | none => exact if_pos ⟨h, rfl⟩
  | some n => exact if_neg nofun

/-- The line's event leaves what the drained condition reads. -/
theorem takeDetect_reportDrained (s : State) : s.reportDrained s.takeDetect = s.takeDetect := by
  have same : s.takeDetect.scs = s.scs ∧ s.takeDetect.rfs = s.rfs ∧ s.takeDetect.tbs = s.tbs := by
    unfold State.takeDetect
    repeat' split
    all_goals simp
  obtain ⟨scs, rfs, tbs⟩ := same
  exact reportDrained_same (by rw [scs]) (by rw [rfs]) (by rw [tbs])

/-- Settles O28: the raw level of the line that has moved agrees with the detector's or differs from
it, and a departure has begun or not. -/
theorem detectorDepartsAndReturns : Obligations.DetectorDepartsAndReturns := by
  unfold Obligations.DetectorDepartsAndReturns
  intro high s live seen activeHigh raw
  have level : seen.rawLevel = raw := rawLevel_eq seen
  have event : exec (.shellDetectChange high) s = .next seen.takeDetect := by
    show Host.Outcome.next (seen.event State.takeDetect) = _
    rw [event_live (s := seen) live, takeDetect_reportDrained]
  rw [event]
  by_cases h : raw = s.tru.detectorLevel
  · rw [if_pos h, takeDetect_agreeing (level.trans h)] <;> rfl
  · rw [if_neg h, takeDetect_differing fun same => h (level.symm.trans same)]
    rfl

end Sys2Proof.Proofs
end

section
/-! PROOFS. The assignment of a shot (O35): the context that takes it, and its position there (R68,
R85). -/

namespace Sys2Proof.Proofs

open Sys2Proof.Machine Sys2Proof.Laws

/-- With no context that has the property there is no oldest. -/
theorem oldest_eq_none {s : State} {p : Shell → Bool} (h : ∀ i, s.holds p i = false) :
    s.oldest p = .none := by
  have none : allContexts.filter (s.holds p) = [] :=
    List.filter_eq_nil_iff.mpr fun i _ => by rw [h i]; exact Bool.false_ne_true
  rw [State.oldest, none]
  rfl

/-- A record judged against a context goes by the length past the shell's head at the ring (R68). -/
theorem judge_of_context {s : State} {i : Fin 4} {sh : Shell} (h : s.scs.contexts[i] = .some sh) :
    s.judge i =
      if sh.headMark + s.lineField (·.ringOffset) ≤ s.currentLength then
        .assigned i (s.currentLength - (sh.headMark + s.lineField (·.ringOffset)))
      else .beforeHead i := by
  have position : s.positionIn i =
      (s.currentLength : Int) - sh.headMark - s.lineField (·.ringOffset) := by
    rw [State.positionIn, h]
    rfl
  unfold State.judge
  rw [position]
  split
  · rw [if_pos (by omega)]
    congr 1
    omega
  · rw [if_neg (by omega)]

/-- The oldest shell whose tail has not reached the ring takes the record (R85 case 1). -/
theorem assign_tail {s : State} {i : Fin 4}
    (h : s.oldest (Shell.tailInRing s.currentLength (s.lineField (·.ringOffset))) = .some i) :
    s.assign = s.judge i := by
  rw [State.assign, h]

/-- With no tail in the ring the OPEN shell takes it, or none does (R85 cases 2 and 3). -/
theorem assign_noTail {s : State}
    (h : s.oldest (Shell.tailInRing s.currentLength (s.lineField (·.ringOffset))) = .none) :
    s.assign = match s.openContext with
      | .some i => s.judge i
      | .none => .noShell := by
  rw [State.assign, h] <;> rfl

/-- Settles O35: the cases of R85, each with its context found as the oldest of its property. -/
theorem shotGoesToTailThenOpenShell : Obligations.ShotGoesToTailThenOpenShell := by
  unfold Obligations.ShotGoesToTailThenOpenShell
  intro s one length offset inRing judged
  have tail : Shell.tailInRing s.currentLength (s.lineField (·.ringOffset)) = inRing := by
    funext sh
    show Shell.tailInRing length offset sh = _
    unfold Shell.tailInRing
    cases hp : sh.phase <;> simp only [inRing, hp]
  have absent (free : ∀ j, s.holds inRing j = false) := assign_noTail (oldest_eq_none (tail ▸ free))
  refine ⟨fun i sh hi ring least => ?_, fun i sh free hi isOpen => ?_, fun free shut => ?_⟩
  · have oldest : s.oldest inRing = .some i :=
      oldest_eq ((holds_of_context hi _).trans ring) fun j hj hne => by
        obtain ⟨other, hother, otherRing⟩ := (holds_iff s _ j).mp hj
        rw [sequenceAt_of_context hi, sequenceAt_of_context hother]
        exact least j other hother otherRing hne
    rw [assign_tail (tail ▸ oldest), judge_of_context hi]
    rfl
  · rw [absent free, openContext_eq one ((holds_of_context hi _).trans isOpen)]
    exact judge_of_context hi
  · rw [absent free, openContext_none shut]

end Sys2Proof.Proofs
end

section
/-! PROOFS. What the shell boundary leaves of the Tracking Unit and of the counters (R84, R136,
R148), and the edges of LENGTH PULSE (O25). -/

namespace Sys2Proof.Proofs

open Sys2Proof.Machine Sys2Proof.Laws

/-! ### The Tracking Unit and the counters (R60, R64) -/

@[simp] theorem raise_counters_tru (f : Machine.Flag) (q : Option Nat) (s : State) :
    (s.raise f q).counters.tru = s.counters.tru := by rw [raise_counters]

/-- From `s` to `t` the Tracking Unit stands but for its debounce timer, and the counters stand but
for those of the channels, the Table Store and the Event Unit. -/
structure TracksOn (s t : State) : Prop where
  tru : t.tru = { s.tru with debounce := t.tru.debounce }
  counters : t.counters = { s.counters with
    channels := t.counters.channels, tbs := t.counters.tbs, evu := t.counters.evu }

theorem TracksOn.of_same {s t : State} (ht : t.tru = s.tru) (hc : t.counters = { s.counters with
    channels := t.counters.channels, tbs := t.counters.tbs, evu := t.counters.evu }) :
    TracksOn s t := ⟨by rw [ht], hc⟩

theorem TracksOn.refl (s : State) : TracksOn s s := .of_same rfl rfl

theorem TracksOn.trans {s t u : State} (h : TracksOn s t) (k : TracksOn t u) : TracksOn s u :=
  ⟨by rw [k.tru, h.tru], by rw [k.counters, h.counters]⟩

section
variable {s t : State} (h : TracksOn s t)
include h

theorem TracksOn.lengthCounter : t.tru.lengthCounter = s.tru.lengthCounter := by rw [h.tru]

theorem TracksOn.counted : t.counters.tru = s.counters.tru := by rw [h.counters]

theorem TracksOn.shells : t.counters.scs = s.counters.scs := by rw [h.counters]

end

theorem raise_tracksOn (f : Machine.Flag) (q : Option Nat) (s : State) :
    TracksOn s (s.raise f q) := .of_same (raise_tru f q s) (by rw [raise_counters])

theorem reportDrained_tracksOn (before after : State) :
    TracksOn after (before.reportDrained after) :=
  .of_same (reportDrained_tru before after) (by rw [reportDrained_counters])

/-! ### The application of the staged set (R137) -/

/-- A cancellation counts for its channel alone (R36). -/
theorem applyReferenceChange_counters (c : Fin 8) (h : SlotChange) (s : State) :
    (s.applyReferenceChange c h).counters =
      { s.counters with channels := (s.applyReferenceChange c h).counters.channels } := by
  rw [applyReferenceChange_eq, rfsChannel_counters]
  split
  · cases hq : s.rfs.channels[c].request with
    | none => rw [cancel_none hq]
    | some q => rw [cancel_some hq]; rfl
  · rfl

theorem followed_counters (s : State) :
    (followed s).counters = { s.counters with channels := (followed s).counters.channels } := by
  have kept := followed_keeps (fun t => { t.counters with channels := s.counters.channels })
    (fun c change t => by rw [applyReferenceChange_counters]) s
  simp only [reportToEtu_counters, replaceActive_counters] at kept
  exact (congrArg (fun k : Counters => { k with channels := (followed s).counters.channels }) kept)

theorem applyActivation_tracksOn (s : State) : TracksOn s s.applyActivation := by
  have tru := (applyActivation_applied s).detector
  refine ⟨by rw [tru], ?_⟩
  rw [applyActivation_eq]
  dsimp only [State.tally]
  rw [raise_counters, (settled_of_followed s).counters]
  show ({ (followed s).counters with
    channels := _, tbs := _, evu := _ } : Counters) = _
  rw [followed_counters]

/-! ### The boundary (R84, R148) -/

theorem toMode_examined (m : Mode) (s : State) :
    Examined { s with scs := (s.toMode m).scs } (s.toMode m) := by
  rw [toMode_scs]
  exact examine_examined _

/-- Settling the mode is its change and an examination. -/
theorem settleMode_examined (s : State) :
    Examined { s with scs := s.settleMode.scs } s.settleMode := by
  unfold State.settleMode
  split
  · split
    · exact toMode_examined .parking
        { s with scs.drainTimer := .some (s.lineField (·.parkDrainLimit)) }
    · exact toMode_examined .standby s
  · exact .refl s

theorem settleMode_tracksOn (s : State) : TracksOn s s.settleMode :=
  .of_same (settleMode_tru s) (by rw [(settleMode_examined s).counters])

theorem boundary_tracksOn (s : State) : TracksOn s s.boundary := by
  unfold State.boundary
  split
  · exact .refl s
  · split
    · exact (applyActivation_tracksOn s).trans (settleMode_tracksOn _)
    · exact settleMode_tracksOn s

theorem complete_tracksOn (i : Fin 4) (mark : Irregularity → Irregularity) (s : State) :
    TracksOn s (s.complete i mark) := by
  cases h : s.holds Shell.isClosing i with
  | true =>
    obtain ⟨sh, hi, closing⟩ := (holds_iff s _ i).mp h
    obtain ⟨tailMark, timer, completion, hp⟩ := (isClosing_iff sh).mp closing
    have shell : TracksOn s (s.shellAt i (completed mark)) := .of_same rfl rfl
    have raised := shell.trans (raise_tracksOn .shellComplete (.some sh.sequence) _)
    rw [complete_closing hi hp]
    dsimp only
    split
    · exact raised.trans (raise_tracksOn _ _ _)
    · exact raised
  | false =>
    rw [complete_elsewhere h]
    exact .refl s

theorem enterClosing_tracksOn (i : Fin 4) (mark : Irregularity → Irregularity) (s : State) :
    TracksOn s (s.enterClosing i mark) := by
  have shell : TracksOn s (s.shellAt i (enteredClosing mark s)) := .of_same rfl rfl
  unfold State.enterClosing
  dsimp only
  split
  · exact shell.trans (complete_tracksOn i id _)
  · exact shell

theorem completeReached_tracksOn (n : Nat) (s : State) : TracksOn s (s.completeReached n) := by
  induction n generalizing s with
  | zero => exact .refl s
  | succ n ih =>
    unfold State.completeReached
    split
    · exact .refl s
    · exact (complete_tracksOn _ _ s).trans ((boundary_tracksOn _).trans (ih _))

/-! ### The edges of LENGTH PULSE (R57 to R59) -/

theorem counts_iff (p : PulseEdge) (high : Bool) : p.counts high = true ↔
    p = .both ∨ (p = .rising ∧ high = true) ∨ (p = .falling ∧ high = false) := by
  cases p <;> simp [PulseEdge.counts]

/-- The line has moved to a level. -/
def sawPulse (high : Bool) (s : State) : State := { s with pins.lengthPulse := high }

/-- The part has taken the level of the line, and counted nothing. -/
def tookLevel (high : Bool) (s : State) : State :=
  { sawPulse high s with tru := { s.tru with pulseLevel := high } }

/-- The part has counted an edge and its travel, and the SCS has not been told (R57). -/
def travelled (high : Bool) (setup : LineSetup) (s : State) : State :=
  { tookLevel high s with
    tru := { s.tru with
      lengthCounter := min (s.tru.lengthCounter + setup.umPerPulse) (2 ^ 48 - 1)
      pulseLevel := high }
    counters.tru.edgesCounted := inc32 s.counters.tru.edgesCounted }

theorem exec_pulseEdge {s : State} (live : s.resetHeld = false) (high : Bool) :
    exec (.pulseEdge high) s =
      .next ((sawPulse high s).reportDrained (sawPulse high s).takePulse) := by
  show Host.Outcome.next ((sawPulse high s).event State.takePulse) = _
  rw [event_live (s := sawPulse high s) live]

/-- The level last seen is no edge. -/
theorem takePulse_same {s : State} {high : Bool} (h : high = s.tru.pulseLevel) :
    (sawPulse high s).takePulse = sawPulse high s := if_pos h

/-- An edge that the line setup does not select, or that finds none, moves the pulse level alone. -/
theorem takePulse_uncounted {s : State} {high : Bool} (h : high ≠ s.tru.pulseLevel)
    (hl : ∀ l, s.line = .some l → l.pulseEdge.counts high = false) :
    (sawPulse high s).takePulse = tookLevel high s := by
  have moved : (sawPulse high s).takePulse =
      match s.line with
      | .some l => if l.pulseEdge.counts high then (tookLevel high s).countEdge l
          else tookLevel high s
      | .none => tookLevel high s := if_neg h
  rw [moved]
  cases line : s.line with
  | none => rfl
  | some l => simp only [hl l line, Bool.false_eq_true, if_false]

/-- A selected edge adds its travel, and a rise of the current length is told to the SCS. -/
theorem takePulse_counted {s : State} {high : Bool} {l : LineSetup} (h : high ≠ s.tru.pulseLevel)
    (hl : s.line = .some l) (counts : l.pulseEdge.counts high = true) :
    (sawPulse high s).takePulse =
      if s.currentLength < (travelled high l s).currentLength then
        (travelled high l s).lengthAdvance
      else travelled high l s := by
  have moved : (sawPulse high s).takePulse =
      match s.line with
      | .some l => if l.pulseEdge.counts high then (tookLevel high s).countEdge l
          else tookLevel high s
      | .none => tookLevel high s := if_neg h
  rw [moved, hl]
  simp only [counts, if_true]
  rfl

/-- Whether or not the length rises, the travel and the count stand. -/
theorem takePulse_tracksOn {s : State} {high : Bool} {l : LineSetup} (h : high ≠ s.tru.pulseLevel)
    (hl : s.line = .some l) (counts : l.pulseEdge.counts high = true) :
    TracksOn (travelled high l s) (sawPulse high s).takePulse := by
  rw [takePulse_counted h hl counts]
  split
  · exact completeReached_tracksOn 4 _
  · exact .refl _

/-- The edge counted reaches no block beyond the shells and the references. -/
theorem takePulse_outside {s : State} {high : Bool} {l : LineSetup} (h : high ≠ s.tru.pulseLevel)
    (hl : s.line = .some l) (counts : l.pulseEdge.counts high = true) :
    (sawPulse high s).takePulse.pins = (sawPulse high s).pins ∧
      (sawPulse high s).takePulse.rpb = s.rpb ∧ (sawPulse high s).takePulse.ldu = s.ldu ∧
      (sawPulse high s).takePulse.cmu = s.cmu ∧ (sawPulse high s).takePulse.mli = s.mli := by
  rw [takePulse_counted h hl counts]
  split
  · simp only [lengthAdvance_pins, lengthAdvance_rpb, lengthAdvance_ldu, lengthAdvance_cmu,
      lengthAdvance_mli]
    exact ⟨rfl, rfl, rfl, rfl, rfl⟩
  · exact ⟨rfl, rfl, rfl, rfl, rfl⟩

/-- Settles O25: no edge, an edge not selected, or one that is counted, whose travel and count every
later act of the event leaves. -/
theorem pulseEdgeCountsTravel : Obligations.PulseEdgeCountsTravel := by
  unfold Obligations.PulseEdgeCountsTravel
  intro high s live seen
  have still (t : State) (hs : t.scs = s.scs) (hr : t.rfs = s.rfs) (ht : t.tbs = s.tbs) :
      (sawPulse high s).reportDrained t = t :=
    reportDrained_same (by rw [hs]; rfl) (by rw [hr]; rfl) (by rw [ht]; rfl)
  rw [exec_pulseEdge live]
  refine ⟨fun h => ?_, fun h none => ?_, fun h l hl => ?_⟩
  · rw [takePulse_same h, still (sawPulse high s) rfl rfl rfl]
    rfl
  · rw [takePulse_uncounted h fun l hl => (Option.some_ne_none l (hl.symm.trans none)).elim,
      still (tookLevel high s) rfl rfl rfl]
    rfl
  intro counts
  refine ⟨fun no => ?_, fun yes => ?_⟩
  · have unselected : ∀ k, s.line = .some k → k.pulseEdge.counts high = false := fun k hk => by
      cases hl.symm.trans hk
      exact Bool.eq_false_iff.mpr fun c => no ((counts_iff _ _).mp c)
    rw [takePulse_uncounted h unselected, still (tookLevel high s) rfl rfl rfl]
    rfl
  · have selected : l.pulseEdge.counts high = true := (counts_iff _ _).mpr yes
    have tracks := (takePulse_tracksOn h hl selected).trans
      (reportDrained_tracksOn (sawPulse high s) _)
    obtain ⟨pins, rpb, ldu, cmu, mli⟩ := takePulse_outside h hl selected
    refine ⟨_, rfl, tracks.lengthCounter, ?_, ?_, ?_, ?_, ?_, ?_, ?_, ?_⟩
    · rw [tracks.tru]; rfl
    · rw [tracks.tru]; rfl
    · rw [tracks.counted]; rfl
    · rw [reportDrained_pins, pins]; rfl
    · rw [reportDrained_rpb, rpb]
    · rw [reportDrained_ldu, ldu]
    · rw [reportDrained_cmu, cmu]
    · rw [reportDrained_mli, mli]

end Sys2Proof.Proofs
end

section
/-! PROOFS. The length counter under every row of the table (O26): a counted edge adds to it, and
nothing else but the two resets writes it (R57, R60). -/

namespace Sys2Proof.Proofs

open Sys2Proof.Machine Sys2Proof.Laws

/-- The operation leaves the length counter. -/
def KeepsLength (f : State → State) : Prop :=
  ∀ s, (f s).tru.lengthCounter = s.tru.lengthCounter

/-- The act of a command leaves the length counter. -/
def AnswerKeepsLength (act : State → Answer) : Prop :=
  ∀ s, (act s).state.tru.lengthCounter = s.tru.lengthCounter

/-- The act leaves the length counter, whatever command it takes. -/
def ActKeepsLength (act : Command → State → Answer) : Prop := ∀ c, AnswerKeepsLength (act c)

/-! ### Events and commands -/

theorem event_keepsLength {f : State → State} (h : KeepsLength f) :
    KeepsLength (State.event f) := by
  intro s
  unfold State.event
  split
  · rfl
  · rw [reportDrained_tru, h]

theorem takeCommand_keepsLength {act : Command → State → Answer} (h : ActKeepsLength act)
    (row : Instr) : KeepsLength (State.takeCommand row act) := by
  intro s
  unfold State.takeCommand
  repeat' split
  · rfl
  · exact h _ _
  · rfl

theorem noArguments_keepsLength {act : State → Answer} (h : AnswerKeepsLength act) :
    ActKeepsLength (noArguments act) := by
  intro c s
  rcases noArguments_cases act c s with same | acts
  · rw [same]
  · rw [acts, h]

theorem argumentsOf_keepsLength {act : List Byte → State → Answer}
    (h : ∀ args, AnswerKeepsLength (act args)) (n : Nat) :
    ActKeepsLength (argumentsOf n act) := by
  intro c s
  rcases argumentsOf_cases n act c s with same | acts
  · rw [same]
  · rw [acts, h]

/-! ### The links -/

theorem receive_keepsLength {owner : Frame → State → State} (h : ∀ f, KeepsLength (owner f))
    (link : Link) (kind : Byte) (bytes : List Byte) :
    KeepsLength (State.receive link kind owner bytes) := by
  intro s
  unfold State.receive
  repeat' split
  · rw [discardFrame_tru]
  · exact h _ _
  · rfl
  · rfl

theorem receiveFailing_keepsLength (link : Link) (bytes : List Byte) :
    KeepsLength (State.receiveFailing link bytes) := by
  intro s
  unfold State.receiveFailing
  repeat' split
  · rw [discardFrame_tru]
  · rfl
  · rfl

theorem offerRelay_keepsLength (f : Frame) : KeepsLength (State.offerRelay f) := by
  intro s
  unfold State.offerRelay
  split <;> rfl

theorem offerRelayed_keepsLength (f : Frame) : KeepsLength (State.offerRelayed f) := by
  intro s
  unfold State.offerRelayed
  split <;> simp

theorem offerCommand_keepsLength (f : Frame) : KeepsLength (State.offerCommand f) := by
  intro s
  unfold State.offerCommand
  repeat' split
  all_goals simp

theorem loseALock_keepsLength (partly : Bool) : KeepsLength (State.loseALock partly) := by
  intro s
  unfold State.loseALock State.discardPartial State.changeALock
  dsimp only
  repeat' split
  all_goals simp

theorem gainALock_keepsLength : KeepsLength State.gainALock := by
  intro s
  unfold State.gainALock State.changeALock
  split <;> simp

theorem loseMLock_keepsLength (partly : Bool) : KeepsLength (State.loseMLock partly) := by
  intro s
  unfold State.loseMLock State.abortM State.discardPartial
  repeat' split
  all_goals simp

theorem takeRequest_keepsLength : KeepsLength State.takeRequest := by
  intro s
  unfold State.takeRequest
  split <;> simp

theorem takeRelayed_keepsLength : KeepsLength State.takeRelayed := by
  intro s
  unfold State.takeRelayed
  repeat' split
  all_goals simp

theorem aReady_keepsLength {f : State → State} (h : KeepsLength f) :
    KeepsLength fun s => if s.aReady then f s else s := by
  intro s
  dsimp only
  split
  · exact h s
  · rfl

theorem takeReply_keepsLength : KeepsLength State.takeReply := by
  intro s
  unfold State.takeReply
  repeat' split
  all_goals rfl

theorem takeNotice_keepsLength : KeepsLength State.takeNotice := by
  intro s
  unfold State.takeNotice
  repeat' split
  all_goals rfl

theorem takeReportFrame_keepsLength : KeepsLength State.takeReportFrame := by
  intro s
  unfold State.takeReportFrame
  repeat' split
  all_goals rfl

theorem takeSample_keepsLength : KeepsLength State.takeSample := by
  intro s
  unfold State.takeSample
  repeat' split
  all_goals rfl

theorem takeRelay_keepsLength : KeepsLength State.takeRelay := by
  intro s
  unfold State.takeRelay
  repeat' split
  all_goals rfl

theorem takeForwarded_keepsLength : KeepsLength State.takeForwarded := by
  intro s
  unfold State.takeForwarded
  repeat' split
  all_goals rfl

/-! ### The shells (chapter 5) -/

theorem tailEnd_keepsLength : KeepsLength State.tailEnd := by
  intro s
  unfold State.tailEnd
  split
  · exact ((enterClosing_tracksOn _ id s).trans (boundary_tracksOn _)).lengthCounter
  · rfl

theorem headStep2_tracksOn (s : State) : TracksOn s.headStep1 s.headStep1.headStep2 := by
  have cut : ∀ (n : Nat) (s : State), TracksOn s (s.cutTails n) := by
    intro n
    induction n with
    | zero => exact .refl
    | succ n ih =>
      intro s
      unfold State.cutTails
      split
      · exact .refl s
      · exact (complete_tracksOn _ _ s).trans (ih _)
  unfold State.headStep2
  split
  · exact (cut 4 _).trans (applyActivation_tracksOn _)
  · exact .refl _

/-- Steps 3 and 4 and the settling of the mode leave the Tracking Unit. -/
theorem headSteps34_tru (s : State) : s.headSteps34.tru = s.tru := by
  have allocated := allocate_tru s
  unfold State.headSteps34
  split
  · next u h =>
    have same : u.tru = s.tru := by rwa [h] at allocated
    simp [same]
  · next u h =>
    have same : u.tru = s.tru := by rwa [h] at allocated
    split <;> simp [same]

theorem headEnd_keepsLength : KeepsLength State.headEnd := by
  intro s
  unfold State.headEnd
  split
  · rfl
  · rw [headSteps34_tru, (headStep2_tracksOn s).lengthCounter, headStep1_tru]

theorem takeDetect_keepsLength : KeepsLength State.takeDetect := by
  intro s
  unfold State.takeDetect State.startDeparture
  repeat' split
  all_goals rfl

theorem debounceOut_keepsLength : KeepsLength State.debounceOut := by
  intro s
  unfold State.debounceOut State.takeChange
  split
  · dsimp only
    split
    · exact headEnd_keepsLength _
    · exact tailEnd_keepsLength _
  · rfl

theorem dwellOut_keepsLength (i : Fin 4) : KeepsLength (State.dwellOut i) := by
  intro s
  unfold State.dwellOut
  split
  · exact ((enterClosing_tracksOn i _ s).trans (boundary_tracksOn _)).lengthCounter
  · rfl

theorem tailOut_keepsLength (i : Fin 4) : KeepsLength (State.tailOut i) := by
  intro s
  unfold State.tailOut
  split
  · exact ((complete_tracksOn i _ s).trans (boundary_tracksOn _)).lengthCounter
  · rfl

theorem drainOut_keepsLength : KeepsLength State.drainOut := by
  intro s
  unfold State.drainOut
  split <;> simp

theorem takeDrainedReport_keepsLength : KeepsLength State.takeDrainedReport := by
  intro s
  unfold State.takeDrainedReport
  dsimp only
  repeat' split
  all_goals simp

theorem intervalOut_keepsLength (c : Fin 8) : KeepsLength (State.intervalOut c) := by
  intro s
  unfold State.intervalOut
  split <;> simp

theorem requestOut_keepsLength (c : Fin 8) : KeepsLength (State.requestOut c) := by
  intro s
  unfold State.requestOut
  split <;> simp

/-! ### Shot records (R1) -/

theorem acceptShot_tru (i : Fin 4) (sh : Shell) (e : ChannelEntry) (r : ShotRecord) (shot : Shot)
    (w : WallResult) (t : Nat) (s : State) : (s.acceptShot i sh e r shot w t).tru = s.tru := by
  unfold State.acceptShot State.raiseExcursion
  dsimp only
  repeat' split
  all_goals simp

theorem gauge_tru (c : Fin 8) (e : ChannelEntry) (r : ShotRecord) (i : Fin 4) (position : Nat)
    (times : EchoTimes) (transit t : Nat) (s : State) :
    (s.gauge c e r i position times transit t).tru = s.tru := by
  unfold State.gauge
  dsimp only
  repeat' split
  · rfl
  · rw [finish_tru, acceptShot_tru]
  · simp

theorem timeAndGauge_tru (c : Fin 8) (e : ChannelEntry) (r : ShotRecord) (i : Fin 4)
    (position : Nat) (s : State) : (s.timeAndGauge c e r i position).tru = s.tru := by
  unfold State.timeAndGauge State.rejectAssigned
  dsimp only
  repeat' split
  · simp
  · simp
  · rw [gauge_tru, etuChannel_tru]

theorem measure_tru (c : Fin 8) (e : ChannelEntry) (r : ShotRecord) (gap : Nat) (s : State) :
    (s.measure c e r gap).tru = s.tru := by
  unfold State.measure
  dsimp only
  split
  · simp
  · simp
  · rw [timeAndGauge_tru, shellAt_tru, etuChannel_tru]

theorem reference_tru (c : Fin 8) (e : ChannelEntry) (r : ShotRecord) (s : State) :
    (s.reference c e r).tru = s.tru := by
  unfold State.reference State.rejectReference State.acceptReference
  dsimp only
  repeat' split
  all_goals simp

theorem passRecord_tru (c : Fin 8) (e : ChannelEntry) (r : ShotRecord) (s : State) :
    (s.passRecord c e r).tru = s.tru := by
  unfold State.passRecord
  dsimp only
  split
  · exact measure_tru _ _ _ _ _
  · exact reference_tru _ _ _ _

theorem takeRecord_keepsLength (payload : List Byte) : KeepsLength (State.takeRecord payload) := by
  intro s
  unfold State.takeRecord State.dropUnknownChannel State.dropBadLength State.dropForMode
  dsimp only
  repeat' split
  case isFalse.isFalse => rw [passRecord_tru]
  all_goals simp

/-! ### The commands of the Command Unit (R180) -/

theorem load_keepsLength {write : List Int → State → State} (h : ∀ v s, (write v s).tru = s.tru)
    (specs : List FieldSpec) (tie : List Int → Nat → Bool) (args : List Byte) :
    AnswerKeepsLength (State.load specs tie write args) := by
  intro s
  unfold State.load
  dsimp only
  repeat' split
  · rfl
  · rfl
  · exact congrArg (·.lengthCounter) (h _ s)

theorem loadVelocity_keepsLength : ActKeepsLength State.loadVelocity := by
  intro c s
  unfold State.loadVelocity
  dsimp only
  split
  · exact argumentsOf_keepsLength (load_keepsLength (fun _ _ => stageVelocity_tru _ _ _) _ _) _ c s
  · rfl

theorem loadShortForm_keepsLength : ActKeepsLength State.loadShortForm := by
  intro c s
  unfold State.loadShortForm
  dsimp only
  split
  · exact load_keepsLength (fun _ _ => stageChannel_tru _ _ _) _ _ _ s
  · exact load_keepsLength (fun _ _ => stageVelocity_tru _ _ _) _ _ _ s
  · exact load_keepsLength (fun _ _ => stageBank_tru _ _ _) _ _ _ s
  · exact load_keepsLength (fun _ _ => stageLine_tru _ _) _ _ _ s

theorem readTable_keepsLength (args : List Byte) :
    AnswerKeepsLength (State.readTable args) := by
  intro s
  unfold State.readTable
  dsimp only
  split <;> rfl

theorem activate_keepsLength : AnswerKeepsLength State.activate := by
  intro s
  unfold State.activate
  repeat' split
  · rfl
  · rfl
  · rfl
  · exact (applyActivation_tracksOn s).lengthCounter

theorem selectBank_keepsLength (args : List Byte) :
    AnswerKeepsLength (State.selectBank args) := by
  intro s
  unfold State.selectBank
  split <;> rfl

theorem park_keepsLength : AnswerKeepsLength State.park := by
  intro s
  unfold State.park
  split <;> simp

theorem unpark_keepsLength : AnswerKeepsLength State.unpark := by
  intro s
  unfold State.unpark
  split <;> simp

theorem fetchReport_keepsLength (args : List Byte) :
    AnswerKeepsLength (State.fetchReport args) := by
  intro s
  unfold State.fetchReport
  dsimp only
  repeat' split
  all_goals rfl

theorem releaseReport_keepsLength (args : List Byte) :
    AnswerKeepsLength (State.releaseReport args) := by
  intro s
  unfold State.releaseReport
  repeat' split
  all_goals rfl

theorem armCapture_keepsLength (args : List Byte) :
    AnswerKeepsLength (State.armCapture args) := by
  intro s
  unfold State.armCapture
  repeat' split
  all_goals rfl

theorem readCapture_keepsLength (args : List Byte) :
    AnswerKeepsLength (State.readCapture args) := by
  intro s
  unfold State.readCapture
  repeat' split
  all_goals rfl

/-- What every flag's change leaves, the flags one after another leave. -/
theorem flags_tru {f : State → Flag → State} (h : ∀ s g, (f s g).tru = s.tru) (l : List Flag)
    (s : State) : (l.foldl f s).tru = s.tru := by
  induction l generalizing s with
  | nil => rfl
  | cons g l ih => exact (ih _).trans (h s g)

theorem clearEvents_keepsLength (args : List Byte) :
    AnswerKeepsLength (State.clearEvents args) := by
  intro s
  unfold State.clearEvents
  dsimp only
  split
  · exact congrArg (·.lengthCounter) (flags_tru (fun s g => clearFlag_tru _ g s) _ s)
  · rfl

theorem setEventMask_keepsLength (args : List Byte) :
    AnswerKeepsLength (State.setEventMask args) := by
  intro s
  unfold State.setEventMask
  dsimp only
  split
  · exact congrArg (·.lengthCounter) (flags_tru (fun s g => maskFlag_tru _ g s) _ s)
  · rfl

theorem readCountersCommand_keepsLength : ActKeepsLength State.readCountersCommand := by
  have read (option : Nat) : AnswerKeepsLength (State.readCounters option) := by
    intro s
    unfold State.readCounters
    dsimp only
    repeat' split
    all_goals rfl
  intro c s
  unfold State.readCountersCommand
  split
  · exact read _ s
  · exact read _ s
  · rfl

/-- RESTART leaves the length counter (R60, R183). -/
theorem restartCommand_keepsLength : AnswerKeepsLength State.restartCommand := by
  intro s
  have tru : s.restart.tru = (afresh s).tru := by
    rw [restart_restarted, examine_tru, restarted_rest]
  unfold State.restartCommand
  dsimp only
  rw [tru, afresh]

/-! ### The rows -/

/-- The rows that write the length counter. -/
def writesLength : Instr → Bool
  | .pulseEdge _ | .hardReset | .resetRelease => true
  | _ => false

/-- Every other row leaves it. -/
theorem exec_keepsLength {c : Instr} (hc : writesLength c = false) {s t : State}
    (h : exec c s = .next t) : t.tru.lengthCounter = s.tru.lengthCounter := by
  have command {act : Command → State → Answer} (row : Instr) (ha : ActKeepsLength act) :
      (s.event (State.takeCommand row act)).tru.lengthCounter = s.tru.lengthCounter :=
    event_keepsLength (takeCommand_keepsLength ha row) s
  cases c <;> cases hc <;> cases h
  case shotRecord =>
    exact event_keepsLength
      (receive_keepsLength (fun f => takeRecord_keepsLength f.payload) _ _ _) s
  case concentratorMessage =>
    exact event_keepsLength (receive_keepsLength offerRelay_keepsLength _ _ _) s
  case relayMessage =>
    exact event_keepsLength (receive_keepsLength offerRelayed_keepsLength _ _ _) s
  case commandFrame =>
    exact event_keepsLength (receive_keepsLength offerCommand_keepsLength _ _ _) s
  case shellDetectChange => exact event_keepsLength takeDetect_keepsLength _
  case debounceExpiry => exact event_keepsLength debounceOut_keepsLength s
  case referenceIntervalExpiry channel =>
    exact event_keepsLength (intervalOut_keepsLength channel) s
  case referenceTimeout channel => exact event_keepsLength (requestOut_keepsLength channel) s
  case dwellLimit context => exact event_keepsLength (dwellOut_keepsLength context) s
  case tailTimeout context => exact event_keepsLength (tailOut_keepsLength context) s
  case parkDrainLimit => exact event_keepsLength drainOut_keepsLength s
  case drainedReport => exact event_keepsLength takeDrainedReport_keepsLength s
  case aLinkLockLost partly => exact event_keepsLength (loseALock_keepsLength partly) s
  case aLinkLockGained => exact event_keepsLength gainALock_keepsLength s
  case mLinkLockLost partly => exact event_keepsLength (loseMLock_keepsLength partly) s
  case mLinkLockGained => exact event_keepsLength (f := State.gainMLock) (fun _ => rfl) s
  case sendReferenceRequest =>
    exact event_keepsLength (aReady_keepsLength takeRequest_keepsLength) s
  case sendRelayedMessage =>
    exact event_keepsLength (aReady_keepsLength takeRelayed_keepsLength) s
  case sendReply => exact event_keepsLength takeReply_keepsLength s
  case sendNotice => exact event_keepsLength takeNotice_keepsLength s
  case sendReportFrame => exact event_keepsLength takeReportFrame_keepsLength s
  case sendWallSample => exact event_keepsLength takeSample_keepsLength s
  case sendConcentratorMessage => exact event_keepsLength takeRelay_keepsLength s
  case sendForwardedRecord => exact event_keepsLength takeForwarded_keepsLength s
  case identify => exact command _ (noArguments_keepsLength fun _ => rfl)
  case loadChannel => exact command _ (argumentsOf_keepsLength
    (load_keepsLength (fun _ _ => stageChannel_tru _ _ _) _ _) _)
  case loadVelocity => exact command _ loadVelocity_keepsLength
  case loadBank => exact command _ (argumentsOf_keepsLength
    (load_keepsLength (fun _ _ => stageBank_tru _ _ _) _ _) _)
  case loadLine => exact command _ (argumentsOf_keepsLength
    (load_keepsLength (fun _ _ => stageLine_tru _ _) _ _) _)
  case loadShortForm => exact command _ loadShortForm_keepsLength
  case readTable => exact command _ (argumentsOf_keepsLength readTable_keepsLength 3)
  case activate => exact command _ (noArguments_keepsLength activate_keepsLength)
  case selectBank => exact command _ (argumentsOf_keepsLength selectBank_keepsLength 1)
  case forceHead => exact command _ (noArguments_keepsLength headEnd_keepsLength)
  case forceTail => exact command _ (noArguments_keepsLength tailEnd_keepsLength)
  case park => exact command _ (noArguments_keepsLength park_keepsLength)
  case unpark => exact command _ (noArguments_keepsLength unpark_keepsLength)
  case fetchReport => exact command _ (argumentsOf_keepsLength fetchReport_keepsLength 6)
  case releaseReport => exact command _ (argumentsOf_keepsLength releaseReport_keepsLength 4)
  case readSnapshot => exact command _ (noArguments_keepsLength fun _ => rfl)
  case armCapture => exact command _ (argumentsOf_keepsLength armCapture_keepsLength 3)
  case readCapture => exact command _ (argumentsOf_keepsLength readCapture_keepsLength 2)
  case readEvents => exact command _ (noArguments_keepsLength fun _ => rfl)
  case clearEvents => exact command _ (argumentsOf_keepsLength clearEvents_keepsLength 3)
  case setEventMask => exact command _ (argumentsOf_keepsLength setEventMask_keepsLength 3)
  case readCounters => exact command _ readCountersCommand_keepsLength
  case restart => exact command _ (noArguments_keepsLength restartCommand_keepsLength)
  case unknownCommand => exact command _ fun _ _ => rfl
  case linkFrameDiscarded link frame =>
    exact event_keepsLength (receiveFailing_keepsLength link frame) s
  case frameSendComplete link =>
    exact event_keepsLength (fun s => by rw [endFrame_tru]) s

/-- An edge adds the travel of the line setup when it is counted, up to the limit, and otherwise
nothing (R57, R58). -/
theorem takePulse_length (s : State) : s.takePulse.tru.lengthCounter = s.tru.lengthCounter ∨
    ∃ travel, s.takePulse.tru.lengthCounter =
      min (s.tru.lengthCounter + travel) (2 ^ 48 - 1) := by
  unfold State.takePulse State.countEdge State.lengthAdvance
  dsimp only
  split
  · exact .inl rfl
  · split
    · next l _ =>
      split
      · refine .inr ⟨l.umPerPulse, ?_⟩
        split
        · rw [(completeReached_tracksOn 4 _).lengthCounter]
          rfl
        · rfl
      · exact .inl rfl
    · exact .inl rfl

/-- What the operation does to the length counter, its event does. -/
theorem event_length {f : State → State} (h : ∀ s, (f s).tru.lengthCounter = s.tru.lengthCounter ∨
    ∃ travel, (f s).tru.lengthCounter = min (s.tru.lengthCounter + travel) (2 ^ 48 - 1))
    (s : State) : (s.event f).tru.lengthCounter = s.tru.lengthCounter ∨
      ∃ travel, (s.event f).tru.lengthCounter =
        min (s.tru.lengthCounter + travel) (2 ^ 48 - 1) := by
  unfold State.event
  split
  · exact .inl rfl
  · rw [reportDrained_tru]
    exact h s

/-- A counted edge adds to the counter up to its limit, and any other row leaves it. -/
theorem exec_length {c : Instr} {s t : State} (notReset : c ≠ .hardReset)
    (notRelease : c ≠ .resetRelease) (h : exec c s = .next t) :
    t.tru.lengthCounter = s.tru.lengthCounter ∨
      ∃ travel, t.tru.lengthCounter = min (s.tru.lengthCounter + travel) (2 ^ 48 - 1) := by
  cases hc : writesLength c with
  | false => exact .inl (exec_keepsLength hc h)
  | true =>
    unfold writesLength at hc
    split at hc
    · next high =>
      cases h
      exact event_length takePulse_length (sawPulse high s)
    · exact absurd rfl notReset
    · exact absurd rfl notRelease
    · cases hc

/-- Settles O26: the counter stands or is added to, up to its limit. -/
theorem lengthNeverFalls : Obligations.LengthNeverFalls := by
  unfold Obligations.LengthNeverFalls
  intro c s t notReset notRelease limit h
  rcases exec_length notReset notRelease h with same | ⟨travel, added⟩
  · rw [same]
    exact ⟨le_rfl, limit⟩
  · rw [added]
    exact ⟨le_min (Nat.le_add_right _ _) limit, Nat.min_le_right _ _⟩

end Sys2Proof.Proofs
end

section
/-! PROOFS. The rows by which a head-end or a tail-end reaches the SCS (R62, R63, R65, R66), and the
head-end that is ignored, reclaims a report or misses its shell (O51; R74 to R78). -/

namespace Sys2Proof.Proofs

open Sys2Proof.Machine Sys2Proof.Laws

/-! ### The rows (R62, R63, R65, R66) -/

/-- The state in which the SCS takes an end of a shell from a row that ends in `u`: the detector's
change taken and counted as `u` has it, and the Command Unit in the midst of its command. -/
def rowState (s u : State) (q : Cmu) : State :=
  { s with tru := u.tru, counters.tru := u.counters.tru, cmu := q }

/-- The row ends in the detector's change or in the reply, and the length stands. -/
structure RowEnds (s u : State) : Prop where
  eq : u = rowState s u u.cmu
  length : u.tru.lengthCounter = s.tru.lengthCounter

theorem headEndFrom_ends {s u : State} {row : Instr} (h : s.HeadEndFrom row u) : RowEnds s u := by
  rcases h with ⟨-, -, -, -, -, rfl⟩ | ⟨-, c, rest, -, -, -, rfl⟩
  · exact ⟨rfl, rfl⟩
  · exact ⟨rfl, rfl⟩

theorem tailEndFrom_ends {s u : State} {row : Instr} (h : s.TailEndFrom row u) : RowEnds s u := by
  rcases h with ⟨-, -, -, -, -, rfl⟩ | ⟨-, c, rest, -, -, -, rfl⟩
  · exact ⟨rfl, rfl⟩
  · exact ⟨rfl, rfl⟩

theorem RowEnds.currentLength {s u : State} (h : RowEnds s u) (q : Cmu) :
    (rowState s u q).currentLength = s.tru.lengthCounter / 1000 := congrArg (· / 1000) h.length

/-- The state after the row, with what the SCS made of the end of a shell. -/
def rowEnd (s u v : State) : State := s.reportDrained { v with cmu := u.cmu }

section
variable (s u v : State)

@[simp] theorem rowEnd_scs : (rowEnd s u v).scs = v.scs := reportDrained_scs s _

@[simp] theorem rowEnd_tbs : (rowEnd s u v).tbs = v.tbs := reportDrained_tbs s _

@[simp] theorem rowEnd_tru : (rowEnd s u v).tru = v.tru := reportDrained_tru s _

@[simp] theorem rowEnd_etu : (rowEnd s u v).etu = v.etu := reportDrained_etu s _

@[simp] theorem rowEnd_ali : (rowEnd s u v).ali = v.ali := reportDrained_ali s _

@[simp] theorem rowEnd_channels : (rowEnd s u v).rfs.channels = v.rfs.channels :=
  reportDrained_channels _ s

@[simp] theorem rowEnd_rpb : (rowEnd s u v).rpb = v.rpb := reportDrained_rpb s _

@[simp] theorem rowEnd_ldu : (rowEnd s u v).ldu = v.ldu := reportDrained_ldu s _

@[simp] theorem rowEnd_mli : (rowEnd s u v).mli = v.mli := reportDrained_mli s _

@[simp] theorem rowEnd_pins : (rowEnd s u v).pins = v.pins := reportDrained_pins s _

@[simp] theorem rowEnd_cmu : (rowEnd s u v).cmu = u.cmu := reportDrained_cmu s _

@[simp] theorem rowEnd_counters : (rowEnd s u v).counters = v.counters := reportDrained_counters s _

@[simp] theorem rowEnd_flag (g : Machine.Flag) : (rowEnd s u v).flag g = v.flag g :=
  flag_congr (congrArg (·.flags) (reportDrained_evu s { v with cmu := u.cmu })) g

end

/-- An end of a shell that leaves the references, the mode and the tables brings no drained report.
-/
theorem rowEnd_same {s v : State} (u : State) (hm : v.scs.mode = s.scs.mode)
    (hr : v.rfs.channels = s.rfs.channels) (ht : v.tbs.active.channels = s.tbs.active.channels) :
    rowEnd s u v = { v with cmu := u.cmu } := reportDrained_same hm hr ht

/-- A count beside the row's own, and nothing else. -/
theorem rowEnd_tally (s u : State) (q : Cmu) (f : Counters → Counters) :
    rowEnd s u ((rowState s u q).tally f) = (rowState s u u.cmu).tally f :=
  rowEnd_same (v := (rowState s u q).tally f) u rfl rfl rfl

/-- The row of a head-end takes the head-end of the state it makes. -/
theorem exec_headEndFrom {s u : State} {row : Instr} (h : s.HeadEndFrom row u) :
    ∃ q, exec row s = .next (rowEnd s u (rowState s u q).headEnd) := by
  obtain ⟨v, hv, exec_eq⟩ := exec_headEnd h
  rw [(headEndFrom_ends h).eq] at hv
  refine ⟨v.cmu, ?_⟩
  rw [exec_eq, hv]
  rfl

/-- The row of a tail-end takes the tail-end of the state it makes. -/
theorem exec_tailEndFrom {s u : State} {row : Instr} (h : s.TailEndFrom row u) :
    ∃ q, exec row s = .next (rowEnd s u (rowState s u q).tailEnd) := by
  rcases h with detector | ⟨rfl, c, rest, waits, hcode, hargs, rfl⟩
  · obtain ⟨rfl, -⟩ := id detector
    have from_row : s.TailEndFrom .debounceExpiry u := .inl detector
    refine ⟨u.cmu, ?_⟩
    have kept : u.tailEnd = { u.tailEnd with cmu := u.cmu } := by rw [← tailEnd_cmu u]
    rw [debounceExpiry_tailEnd from_row, ← (tailEndFrom_ends from_row).eq]
    exact congrArg (fun t => Host.Outcome.next (s.reportDrained t)) kept
  · refine ⟨{ s.cmu with commands := rest }, ?_⟩
    show Host.Outcome.next (s.event _) = _
    rw [event_noArguments _ waits (by simp [Command.row, hcode]) hargs]
    have queue : (acting rest s).tailEnd.cmu = { s.cmu with commands := rest } := tailEnd_cmu _
    simp only [State.forceTail, State.answer, withReply, queue]
    rfl

/-! ### Steps 3 and 4 (R76, R77) -/

/-- With no shell OPEN and nothing pending a head-end is its steps 3 and 4. -/
theorem headEnd_steps34 {s : State} (hm : s.scs.mode ≠ .unconfigured)
    (shut : ∀ j, s.holds Shell.isOpen j = false) (free : s.tbs.activationPending = false) :
    s.headEnd = s.headSteps34 := by
  have step1 : s.headStep1 = s := by rw [State.headStep1, openContext_none shut]
  have step2 : s.headStep2 = s := by
    rw [State.headStep2, if_neg (by rw [free]; exact Bool.false_ne_true)]
  rw [State.headEnd, if_neg hm, step1, step2]

/-- A COMPLETE shell that is not being streamed may be reclaimed (R76). -/
def reclaimable (s : State) (sh : Shell) : Bool := sh.isComplete && !s.streamed sh

/-- The state once the report of context `i` is lost (R76). -/
def reclaimed (i : Fin 4) (s : State) : State :=
  ((s.freeContext i).raise .reportLost (.some (s.sequenceAt i))).tally fun k =>
    { k with scs.reportsLost := inc32 k.scs.reportsLost }

theorem reclaimed_scs (i : Fin 4) (s : State) :
    (reclaimed i s).scs = { s.scs with contexts := s.scs.contexts.set i .none } := by
  rw [reclaimed, tally_scs, raise_scs]
  rfl

theorem reclaimed_flag (i : Fin 4) (s : State) (g : Machine.Flag) : (reclaimed i s).flag g =
    if g = .reportLost then (s.flag g).occur (.some (s.sequenceAt i)) else s.flag g :=
  raise_flag .reportLost g _ (s.freeContext i)

theorem reclaimed_counters (i : Fin 4) (s : State) : (reclaimed i s).counters.scs =
    { s.counters.scs with reportsLost := inc32 s.counters.scs.reportsLost } := by
  unfold reclaimed
  dsimp only [State.tally]
  rw [raise_counters_scs]
  rfl

/-- Where there is a FREE context one is allocated, and the state stands. -/
theorem allocate_free {s : State} (h : ∃ i : Fin 4, s.scs.contexts[i] = .none) :
    ∃ k, s.allocate = (.some k, s) := by
  obtain ⟨i, hi⟩ := h
  have found : (allContexts.find? fun j => s.scs.contexts[j].isNone).isSome = true :=
    List.find?_isSome.mpr ⟨i, mem_allContexts i, by rw [hi]; rfl⟩
  obtain ⟨k, hk⟩ := Option.isSome_iff_exists.mp found
  exact ⟨k, by simp only [State.allocate, hk]⟩

/-- With no FREE context a report is reclaimed, or there is no context (R76). -/
theorem allocate_full {s : State} (full : ∀ i : Fin 4, s.scs.contexts[i] ≠ .none) :
    s.allocate = match s.oldest (reclaimable s) with
      | .none => (.none, s)
      | .some i => (.some i, reclaimed i s) := by
  have none : (allContexts.find? fun j => s.scs.contexts[j].isNone) = .none :=
    List.find?_eq_none.mpr fun i _ => by simpa using full i
  unfold State.allocate
  rw [none]
  rfl

/-- A shell that finds no context, or no bank to bind, is missed (R76, R77). -/
theorem headSteps34_missed {s x : State} {k : Option (Fin 4)} (ha : s.allocate = (k, x))
    (h : k = .none ∨ x.bindableBank = .none) : s.headSteps34 = x.missShell.settleMissed := by
  unfold State.headSteps34
  rw [ha]
  cases k with
  | none => rfl
  | some i =>
    rcases h with none | none
    · cases none
    · dsimp only
      rw [none]

/-- A context and a bank open a shell (R77). -/
theorem headSteps34_opened {s x : State} {i : Fin 4} {bank : ProductBank}
    (ha : s.allocate = (.some i, x)) (hb : x.bindableBank = .some bank) :
    s.headSteps34 = (x.openShell i bank).settleOpened := by
  unfold State.headSteps34
  rw [ha]
  dsimp only
  rw [hb]

theorem missShell_flag (s : State) (g : Machine.Flag) : s.missShell.flag g =
    if g = .shellMissed then (s.flag g).occur .none else s.flag g :=
  raise_flag .shellMissed g .none s

theorem missShell_counters (s : State) : s.missShell.counters.scs =
    { s.counters.scs with shellsMissed := inc32 s.counters.scs.shellsMissed } := by
  unfold State.missShell
  dsimp only [State.tally]
  rw [raise_counters_scs]

/-- Where the mode agrees with the ring a missed head-end leaves it (R78). -/
theorem settleMissed_agreeing {s : State} (h : s.scs.mode = .measuring → s.gauging = true) :
    s.settleMissed = s := by
  unfold State.settleMissed
  split
  · rfl
  · next idle => exact if_neg fun measuring => idle (h measuring)

theorem bindableBank_none {s : State}
    (h : ¬(s.scs.nextSequence ≠ 0 ∧ s.tbs.active.banks[s.tbs.selectedBank] ≠ .none)) :
    s.bindableBank = .none := by
  unfold State.bindableBank
  split
  · rfl
  · next number => exact not_not.mp fun bank => h ⟨number, bank⟩

theorem bindableBank_of {s : State} {bank : ProductBank} (hn : s.scs.nextSequence ≠ 0)
    (hb : s.tbs.active.banks[s.tbs.selectedBank] = .some bank) : s.bindableBank = .some bank := by
  rw [State.bindableBank, if_neg hn, hb]

/-! ### What steps 3 and 4 leave -/

/-- Steps 3 and 4 miss the shell or open it, in what the allocation leaves. -/
theorem headSteps34_forms (s : State) : s.headSteps34 = s.allocate.2.missShell.settleMissed ∨
    ∃ i bank, s.headSteps34 = (s.allocate.2.openShell i bank).settleOpened := by
  unfold State.headSteps34
  split
  · next h => rw [h]; exact .inl rfl
  · next h =>
    rw [h]
    split
    · exact .inl rfl
    · exact .inr ⟨_, _, rfl⟩

theorem headSteps34_tbs (s : State) : s.headSteps34.tbs = s.tbs := by
  rcases headSteps34_forms s with h | ⟨i, bank, h⟩ <;> rw [h] <;> simp

theorem headSteps34_etu (s : State) : s.headSteps34.etu = s.etu := by
  rcases headSteps34_forms s with h | ⟨i, bank, h⟩ <;> rw [h] <;> simp

theorem allocate_counters_tru (s : State) : s.allocate.2.counters.tru = s.counters.tru := by
  unfold State.allocate
  repeat' split
  · rfl
  · rfl
  · exact raise_counters_tru _ _ (s.freeContext _)

theorem headSteps34_counters_tru (s : State) : s.headSteps34.counters.tru = s.counters.tru := by
  refine Eq.trans ?_ (allocate_counters_tru s)
  rcases headSteps34_forms s with h | ⟨i, bank, h⟩ <;> rw [h]
  · have missed : s.allocate.2.missShell.counters.tru = s.allocate.2.counters.tru :=
      raise_counters_tru _ _ _
    unfold State.settleMissed
    split
    · exact missed
    · exact (settleMode_tracksOn _).counted.trans missed
  · exact (settleOpened_settled _).detector.trans (openShell_counters i bank _).2

/-- The reclaim leaves the bank that is bound. -/
theorem reclaimed_bindable (i : Fin 4) (s : State) :
    (reclaimed i s).bindableBank = s.bindableBank := by
  have tbs : (reclaimed i s).tbs = s.tbs := by simp [reclaimed]
  simp only [State.bindableBank, reclaimed_scs, tbs]

/-- A shell opened is counted, and no other count of the SCS moves. -/
theorem openShell_counters_scs (i : Fin 4) (bank : ProductBank) (s : State) :
    (s.openShell i bank).counters.scs =
      { s.counters.scs with shellsOpened := inc32 s.counters.scs.shellsOpened } := by
  unfold State.openShell
  dsimp only [State.tally]
  rw [raise_counters_scs]

/-! ### A report reclaimed (R76) -/

/-- The shell that takes the place of a report reclaimed. -/
structure TakesPlace (i : Fin 4) (s t : State) : Prop where
  reportLost : t.flag .reportLost = (s.flag .reportLost).occur (.some (s.sequenceAt i))
  reportsLost : t.counters.scs.reportsLost = inc32 s.counters.scs.reportsLost

theorem reclaimed_opened (i : Fin 4) (bank : ProductBank) (s : State) :
    TakesPlace i s ((reclaimed i s).openShell i bank).settleOpened where
  reportLost := by
    rw [(settleOpened_settled _).flag _ (by decide) (by decide), openShell_flag, reclaimed_flag]
    rfl
  reportsLost := by
    rw [(settleOpened_settled _).shells, openShell_counters_scs, reclaimed_counters]

theorem reclaimed_missed (i : Fin 4) (s : State) : TakesPlace i s (reclaimed i s).missShell where
  reportLost := by
    rw [missShell_flag, reclaimed_flag]
    rfl
  reportsLost := by rw [missShell_counters, reclaimed_counters]

/-- A context that holds a COMPLETE shell is outside the ring, so freeing it leaves the mode
agreeing. -/
theorem reclaimed_agrees {s : State} {i : Fin 4} {old : Shell} (agrees : s.ModeAgrees)
    (hi : s.scs.contexts[i] = .some old) (complete : old.isComplete = true) :
    (reclaimed i s).missShell.settleMissed = (reclaimed i s).missShell := by
  have outside := (holds_of_context hi Shell.inRing).trans (isComplete_inRing complete)
  have alike : ReadsAlike s (reclaimed i s).missShell :=
    (freeContext_readsAlike outside).trans (.of_blocks (by simp [reclaimed]) (by simp [reclaimed]))
  refine settleMissed_agreeing fun measuring => ?_
  rw [alike.gauging]
  exact agrees.1.mp (alike.mode ▸ measuring)

/-- With no context for it, or no bank to bind in a FREE one, the shell is missed and nothing else.
-/
theorem headSteps34_misses {s : State} (agrees : s.ModeAgrees)
    (h : (∃ i : Fin 4, s.scs.contexts[i] = .none) ∧ s.bindableBank = .none ∨
      (∀ i : Fin 4, s.scs.contexts[i] ≠ .none) ∧ ∀ i, s.holds (reclaimable s) i = false) :
    s.headSteps34 = s.missShell := by
  have still : s.missShell.settleMissed = s.missShell := by
    have alike : ReadsAlike s s.missShell := .of_blocks (missShell_scs s) (by simp)
    exact settleMissed_agreeing (alike.modeAgrees agrees).1.mp
  rcases h with ⟨free, unbound⟩ | ⟨full, streamed⟩
  · obtain ⟨k, hk⟩ := allocate_free free
    rw [headSteps34_missed hk (.inr unbound), still]
  · have none : s.allocate = (.none, s) := by
      rw [allocate_full full, oldest_eq_none streamed]
    rw [headSteps34_missed none (.inl rfl), still]

/-- The oldest report not being streamed is the one reclaimed. -/
theorem allocate_reclaims {s : State} {i : Fin 4} (full : ∀ k : Fin 4, s.scs.contexts[k] ≠ .none)
    (hi : s.oldest (reclaimable s) = .some i) : s.allocate = (.some i, reclaimed i s) := by
  rw [allocate_full full, hi]

/-- Settles O51: a head-end in UNCONFIGURED is counted; elsewhere the allocation finds a FREE
context, a report to reclaim or neither, and the bank a shell or none. -/
theorem headEndIgnoredReclaimingOrMissed : Obligations.HeadEndIgnoredReclaimingOrMissed := by
  unfold Obligations.HeadEndIgnoredReclaimingOrMissed
  constructor
  · intro s u row from_row unconfigured
    obtain ⟨q, exec_eq⟩ := exec_headEndFrom from_row
    have ignored : (rowState s u q).headEnd = (rowState s u q).tally fun k =>
        { k with scs.headEndsIgnored := inc32 k.scs.headEndsIgnored } := if_pos unconfigured
    rw [exec_eq, ignored, rowEnd_tally, ← (headEndFrom_ends from_row).eq,
      (headEndFrom_ends from_row).eq]
    rfl
  intro s u row from_row hm shut free agrees reclaimable' bindable
  obtain ⟨q, exec_eq⟩ := exec_headEndFrom from_row
  have steps : (rowState s u q).headEnd = (rowState s u q).headSteps34 :=
    headEnd_steps34 hm shut free
  rw [steps] at exec_eq
  refine ⟨_, exec_eq, rowEnd_cmu .., ?_, ?_, ?_, ?_, ?_, ?_, fun missed => ?_,
    fun i old full hi ok least => ?_⟩
  · rw [rowEnd_tbs, headSteps34_tbs]; rfl
  · rw [rowEnd_tru, headSteps34_tru]; rfl
  · rw [rowEnd_counters, headSteps34_counters_tru]; rfl
  · rw [rowEnd_etu, headSteps34_etu]; rfl
  · rw [rowEnd_rpb, headSteps34_rpb]; rfl
  · rw [rowEnd_ldu, headSteps34_ldu]; rfl
  · have misses : (rowState s u q).headSteps34 = (rowState s u q).missShell :=
      headSteps34_misses agrees (missed.imp_left fun h => ⟨h.1, bindableBank_none h.2⟩)
    have flag := missShell_flag (rowState s u q)
    rw [misses]
    refine ⟨?_, ?_, fun g hg => ?_, ?_⟩
    · rw [rowEnd_scs, missShell_scs]; rfl
    · rw [rowEnd_flag, flag, if_pos rfl]; rfl
    · rw [rowEnd_flag, flag, if_neg hg]; rfl
    · rw [rowEnd_counters, missShell_counters]; rfl
  · have context : (rowState s u q).scs.contexts[i] = .some old := hi
    have sequence : (rowState s u q).sequenceAt i = old.sequence := sequenceAt_of_context context
    have oldest : (rowState s u q).oldest (reclaimable (rowState s u q)) = .some i :=
      oldest_eq ((holds_of_context context _).trans ok) fun j hj hne => by
        obtain ⟨other, hother, otherOk⟩ := (holds_iff _ _ j).mp hj
        rw [sequence, sequenceAt_of_context hother]
        exact least j other hother otherOk hne
    have allocated : (rowState s u q).allocate = (.some i, reclaimed i (rowState s u q)) :=
      allocate_reclaims full oldest
    have complete : old.isComplete = true := (Bool.and_eq_true_iff.mp ok).1
    have opened (bank : ProductBank) (bound : (rowState s u q).bindableBank = .some bank) :
        (rowState s u q).headSteps34 =
          ((reclaimed i (rowState s u q)).openShell i bank).settleOpened :=
      headSteps34_opened allocated ((reclaimed_bindable i _).trans bound)
    have missed (unbound : (rowState s u q).bindableBank = .none) :
        (rowState s u q).headSteps34 = (reclaimed i (rowState s u q)).missShell :=
      (headSteps34_missed allocated (.inr ((reclaimed_bindable i _).trans unbound))).trans
        (reclaimed_agrees agrees context complete)
    have place : TakesPlace i (rowState s u q) (rowState s u q).headSteps34 := by
      cases bound : (rowState s u q).bindableBank with
      | none => exact missed bound ▸ reclaimed_missed i _
      | some bank => exact opened bank bound ▸ reclaimed_opened i bank _
    refine ⟨?_, ?_, fun ⟨hn, present⟩ => ?_, fun unbindable => ⟨?_, ?_⟩⟩
    · rw [rowEnd_flag, place.reportLost, sequence]; rfl
    · rw [rowEnd_counters, place.reportsLost]; rfl
    · obtain ⟨bank, hb⟩ := Option.ne_none_iff_exists'.mp present
      rw [rowEnd_scs, opened bank (bindableBank_of hn hb), (settleOpened_settled _).scs,
        openShell_scs, reclaimed_scs]
      exact ⟨newShell bank _ _ _, Vector.set_set .., rfl, rfl, rfl⟩
    · rw [rowEnd_scs, missed (bindableBank_none unbindable), missShell_scs, reclaimed_scs]; rfl
    · rw [rowEnd_flag, missed (bindableBank_none unbindable), missShell_flag, if_pos rfl,
        reclaimed_flag]
      rfl

end Sys2Proof.Proofs
end

section
/-! PROOFS. The shell boundary as its two statements have it: what an application makes of the
channels (R36, R38, R139), and the whole of the boundary outside a head-end (R84, R136, R148). -/

namespace Sys2Proof.Proofs

open Sys2Proof.Machine Sys2Proof.Laws

/-! ### The channels under an application (R139) -/

/-- An application makes of each channel what the classes of R139 ask. -/
theorem channelsFollow_of_applied {s t : State} (h : Applied s t) : s.ChannelsFollow t := by
  intro i
  have request := applied_request h i
  have cancelled := applied_cancelled h i
  dsimp only
  split
  · next hb ha =>
    obtain ⟨same, etu⟩ := applied_absent h i hb ha
    simp only [losesRequest, hb, Bool.false_eq_true, false_and, if_false] at cancelled
    exact ⟨same, etu, cancelled⟩
  · next hb ha =>
    obtain ⟨off, etu⟩ := applied_disabled h i hb ha
    simp only [losesRequest, hb, ha, true_and] at cancelled
    exact ⟨off, etu, cancelled⟩
  · next hb ha =>
    obtain ⟨backlog, refState, interval, etu⟩ := applied_enabled h i hb ha
    simp only [losesRequest, hb, Bool.false_eq_true, false_and, if_false] at request cancelled
    exact ⟨backlog, refState, interval, request, etu, cancelled⟩
  · next a b hb ha =>
    refine ⟨applied_etu_kept h i hb ha, ?_⟩
    by_cases hr : a.referenceParameters = b.referenceParameters
    · rw [if_pos hr]
      obtain ⟨backlog, refState, interval⟩ := applied_kept h i hb ha hr
      simp only [losesRequest, hb, ha, hr, ne_eq, not_true_eq_false, decide_false,
        Bool.false_eq_true, false_and, if_false] at request cancelled
      exact ⟨backlog, refState, request, by rw [interval, ite_not], cancelled⟩
    · rw [if_neg hr]
      obtain ⟨backlog, refState, interval⟩ := applied_renewed h i hb ha hr
      simp only [losesRequest, hb, ha, hr, ne_eq, not_false_eq_true, decide_true, true_and,
        if_true] at request cancelled
      exact ⟨backlog, refState, interval, request, cancelled⟩

theorem IssuedOver.trans {a b c : Option Request} (h : IssuedOver a b) (k : IssuedOver b c) :
    IssuedOver a c := by
  rcases k with rfl | ⟨rfl, tag, rfl⟩
  · exact h
  · rcases h with same | ⟨rfl, tag', impossible⟩
    · exact .inr ⟨same.symm, tag, rfl⟩
    · cases impossible

/-- From `s` to `t` the channels are examined at most, and one that is off is left. -/
structure ChannelsExamined (s t : State) : Prop where
  issues : s.OnlyIssues t
  off : ∀ i : Fin 8, s.enabled i = false → t.rfs.channels[i] = s.rfs.channels[i]
  etu : t.etu = s.etu
  cancelled : ∀ i : Fin 8,
    t.counters.channels[i].requestsCancelled = s.counters.channels[i].requestsCancelled

theorem ChannelsExamined.of_same {s t : State} (hr : t.rfs.channels = s.rfs.channels)
    (he : t.etu = s.etu) (hc : t.counters.channels = s.counters.channels) :
    ChannelsExamined s t :=
  ⟨OnlyIssues.of_eq hr, fun i _ => by rw [hr], he, fun i => by rw [hc]⟩

theorem examine_channels (s : State) : ChannelsExamined s s.examine where
  issues := (examine_examined s).issues
  off _ off := examine_disabled off
  etu := examine_etu s
  cancelled i := by rw [(examine_examined s).issued]

/-- A change of the SCS before it is beside the channels. -/
theorem ChannelsExamined.after {s t : State} {scs : Scs}
    (h : ChannelsExamined { s with scs := scs } t) : ChannelsExamined s t where
  issues := h.issues
  off := h.off
  etu := h.etu
  cancelled := h.cancelled

theorem settleMode_channels (s : State) : ChannelsExamined s s.settleMode := by
  unfold State.settleMode
  split
  · split
    · exact (examine_channels { s with scs := { s.scs with
        drainTimer := .some (s.lineField (·.parkDrainLimit)), mode := .parking } }).after
    · exact (examine_channels { s with scs := { s.scs with mode := .standby } }).after
  · exact .of_same rfl rfl rfl

/-- An examination after an application leaves the channels following it. -/
theorem channelsFollow_examined {s u t : State} (h : s.ChannelsFollow u)
    (active : u.tbs.active = s.tbs.staged) (k : ChannelsExamined u t) : s.ChannelsFollow t := by
  intro i
  have follows := h i
  obtain ⟨backlog, refState, interval, issued⟩ := k.issues i
  have request : IssuedOver u.rfs.channels[i].request t.rfs.channels[i].request := issued
  have off : enabledEntry s.tbs.staged.channels[i] = .none →
      t.rfs.channels[i] = u.rfs.channels[i] := fun none =>
    k.off i (by simp only [State.enabled, State.entry, active, none, Option.isSome_none])
  dsimp only at follows ⊢
  rw [k.etu, k.cancelled i]
  split at follows
  · next none =>
    rw [off none]
    exact follows
  · next none =>
    rw [off none]
    exact follows
  · next e _ _ =>
    obtain ⟨b, r, n, q, rest⟩ := follows
    exact ⟨backlog.trans b, refState.trans r, interval.trans n, IssuedOver.trans q request, rest⟩
  · obtain ⟨etu, rest⟩ := follows
    refine ⟨etu, ?_⟩
    split at rest
    · next hr =>
      obtain ⟨b, r, q, n, count⟩ := rest
      rw [if_pos hr]
      exact ⟨backlog.trans b, refState.trans r, IssuedOver.trans q request, interval.trans n, count⟩
    · next hr =>
      obtain ⟨b, r, n, q, count⟩ := rest
      rw [if_neg hr]
      exact ⟨backlog.trans b, refState.trans r, interval.trans n, IssuedOver.trans q request, count⟩

/-! ### The boundary (R84, R136, R148) -/

/-- The boundary that the last shell brings, in the terms of the statements. -/
theorem boundary_boundaryTo {s : State} (idle : s.gauging = false) (hm : s.scs.mode = .measuring) :
    s.BoundaryTo s.scs.contexts s.tru s.boundary := by
  have unfolded : s.boundary =
      (if s.tbs.activationPending then s.applyActivation else s).settleMode :=
    if_neg (by rw [idle]; exact Bool.false_ne_true)
  have tbs := boundary_tbs idle
  refine ⟨tbs, ?_, ?_, ?_, boundary_tablesActivated idle⟩
  · rw [boundary_scs idle hm, tbs]
    cases s.tbs.activationPending <;> rfl
  · rw [unfolded]
    cases pending : s.tbs.activationPending with
    | true =>
      have applied := applyActivation_applied s
      exact channelsFollow_examined (channelsFollow_of_applied applied) (by rw [applied.tbs]; rfl)
        (settleMode_channels _)
    | false =>
      have examined := settleMode_channels s
      exact ⟨examined.issues, examined.etu, examined.cancelled⟩
  · rw [unfolded]
    cases pending : s.tbs.activationPending with
    | true =>
      exact detectorFollows_congr (settleMode_tru _) (settleMode_pins _) (settleMode_tbs _)
        (applyActivation_applied s).detector
    | false =>
      refine detectorFollows_congr (s := s) (settleMode_tru _) (settleMode_pins _)
        (settleMode_tbs _) ?_
      unfold State.DetectorFollows
      rw [if_pos rfl]

/-- What a boundary reads of the state after it is the same in a state with the same blocks. -/
theorem boundaryTo_ended {s t u : State} {contexts : Vector (Option Shell) 4} {d : Tru}
    (h : s.BoundaryTo contexts d t) (htbs : u.tbs = t.tbs) (hscs : u.scs = t.scs)
    (htru : u.tru = t.tru) (hpins : u.pins = t.pins) (hetu : u.etu = t.etu)
    (hr : u.rfs.channels = t.rfs.channels) (hc : u.counters = t.counters)
    (hf : ∀ g, u.flag g = t.flag g) : s.BoundaryTo contexts d u := by
  obtain ⟨tbs, scs, channels, detector, raised⟩ := h
  refine ⟨htbs.trans tbs, ?_, ?_, detectorFollows_congr htru hpins htbs detector,
    (hf _).trans raised⟩
  · rw [hscs, htbs, scs]
  · split at channels
    · next pending =>
      rw [if_pos pending]
      intro i
      rw [hr, hetu, hc]
      exact channels i
    · next free =>
      rw [if_neg free, State.OnlyIssues, hr, hetu, hc]
      exact channels

/-! ### Shells that leave the ring before it -/

/-- From `s` to `t` the contexts move, with the Event Unit and its counters, and nothing else. -/
def ShellsMove (s t : State) : Prop :=
  t = { s with
    scs.contexts := t.scs.contexts, evu := t.evu, counters.evu := t.counters.evu }

theorem ShellsMove.refl (s : State) : ShellsMove s s := rfl

theorem ShellsMove.trans {s t u : State} (h : ShellsMove s t) (k : ShellsMove t u) :
    ShellsMove s u := by
  unfold ShellsMove at h k ⊢
  rw [k, h]

theorem raise_shellsMove (f : Machine.Flag) (q : Option Nat) (s : State) :
    ShellsMove s (s.raise f q) := by
  unfold ShellsMove
  rw [raise_scs]
  exact raise_eq f q s

/-- A CLOSING context completes in its shell and in the flags alone (R84). -/
theorem complete_shellsMove (i : Fin 4) (mark : Irregularity → Irregularity) (s : State) :
    ShellsMove s (s.complete i mark) := by
  cases h : s.holds Shell.isClosing i with
  | true =>
    obtain ⟨sh, hi, closing⟩ := (holds_iff s _ i).mp h
    obtain ⟨tailMark, timer, completion, hp⟩ := (isClosing_iff sh).mp closing
    have shell : ShellsMove s (s.shellAt i (completed mark)) := rfl
    have raised := shell.trans (raise_shellsMove .shellComplete (.some sh.sequence) _)
    rw [complete_closing hi hp]
    dsimp only
    split
    · exact raised.trans (raise_shellsMove _ _ _)
    · exact raised
  | false =>
    rw [complete_elsewhere h]
    exact .refl s

theorem enterClosing_shellsMove (i : Fin 4) (mark : Irregularity → Irregularity) (s : State) :
    ShellsMove s (s.enterClosing i mark) := by
  have shell : ShellsMove s (s.shellAt i (enteredClosing mark s)) := rfl
  unfold State.enterClosing
  dsimp only
  split
  · exact shell.trans (complete_shellsMove i id _)
  · exact shell

section
variable {s t : State} (h : ShellsMove s t)
include h

theorem ShellsMove.scs : t.scs = { s.scs with contexts := t.scs.contexts } := by
  rw [h]

theorem ShellsMove.tbs : t.tbs = s.tbs := by rw [h]

theorem ShellsMove.rfs : t.rfs = s.rfs := by rw [h]

theorem ShellsMove.tru : t.tru = s.tru := by rw [h]

theorem ShellsMove.etu : t.etu = s.etu := by rw [h]

theorem ShellsMove.ali : t.ali = s.ali := by rw [h]

theorem ShellsMove.counters :
    t.counters = { s.counters with evu := t.counters.evu } := by rw [h]

/-- A boundary that shells leaving the ring bring is the boundary of the state they left. -/
theorem ShellsMove.boundaryTo (flag : t.flag .tablesActivated = s.flag .tablesActivated)
    (idle : t.gauging = false) (hm : s.scs.mode = .measuring) :
    s.BoundaryTo t.scs.contexts s.tru t.boundary := by
  have mode : t.scs.mode = .measuring := by rw [h.scs, hm]
  obtain ⟨tbs, scs, channels, detector, raised⟩ := boundary_boundaryTo idle mode
  rw [h.tbs] at tbs raised
  rw [h.tbs, h.tru] at detector
  rw [flag] at raised
  refine ⟨tbs, ?_, ?_, detector, raised⟩
  · rw [scs, h.scs]
  · have same : t.counters.channels = s.counters.channels := by rw [h.counters]
    unfold State.ChannelsFollow State.OnlyIssues at channels ⊢
    rw [h.tbs, h.rfs, h.etu, same] at channels
    exact channels

end

/-! ### One completion (R84) -/

theorem complete_contexts {s : State} {i : Fin 4} {sh : Shell} (hi : s.scs.contexts[i] = .some sh)
    (mark : Irregularity → Irregularity) : (s.complete i mark).scs.contexts =
      s.scs.contexts.set i (.some (completed mark sh)) := by
  rw [complete_scs, shellAt_of_context hi]

/-- A completion raises SHELL_COMPLETE, and TAIL_IRREGULAR under a tail flag. -/
theorem complete_flag {s : State} {i : Fin 4} {sh : Shell} (hi : s.scs.contexts[i] = .some sh)
    (closing : sh.isClosing = true) (mark : Irregularity → Irregularity) (g : Machine.Flag) :
    (s.complete i mark).flag g =
      if g = .shellComplete ∨ g = .tailIrregular ∧ (mark sh.irregular).tail = true then
        (s.flag g).occur (.some sh.sequence)
      else s.flag g := by
  obtain ⟨tailMark, timer, completion, hp⟩ := (isClosing_iff sh).mp closing
  have shell : (s.shellAt i (completed mark)).flag g = s.flag g := flag_congr rfl g
  rw [complete_closing hi hp]
  dsimp only
  split
  · next tail =>
    rw [raise_flag, raise_flag, shell]
    by_cases hc : g = .shellComplete
    · subst hc; rfl
    · simp only [hc, tail, false_or, and_true, if_false]
  · next noTail =>
    rw [raise_flag, shell]
    simp only [noTail, Bool.false_eq_true, and_false, or_false]

end Sys2Proof.Proofs
end

section
/-! PROOFS. The tail-end (O30): the OPEN shell enters CLOSING, completes at the ring with its
boundary, or the event is a stray tail (R79, R80, R84). -/

namespace Sys2Proof.Proofs

open Sys2Proof.Machine Sys2Proof.Laws

theorem tailEnd_stray {s : State} (shut : ∀ j, s.holds Shell.isOpen j = false) :
    s.tailEnd = s.tally fun k => { k with scs.strayTails := inc32 k.scs.strayTails } := by
  rw [State.tailEnd, openContext_none shut]

theorem tailEnd_closes {s : State} {i : Fin 4} {sh : Shell} (one : s.OneOpen)
    (hi : s.scs.contexts[i] = .some sh) (isOpen : sh.isOpen = true) :
    s.tailEnd = (s.enterClosing i id).boundary := by
  rw [State.tailEnd, openContext_eq one ((holds_of_context hi _).trans isOpen)]

/-- A shell that has entered CLOSING with a way to go to the ring keeps the ring. -/
theorem closing_gauging {s : State} {i : Fin 4} {sh : Shell} (hi : s.scs.contexts[i] = .some sh)
    (mark : Irregularity → Irregularity) :
    (s.shellAt i (enteredClosing mark s)).gauging = true := by
  rw [shellAt_of_context hi]
  exact (gauging_iff _).mpr ⟨i, (holds_set _ i).trans (if_pos rfl)⟩

/-- The shell that completes as it closes (R79, R84). -/
def closedAtRing (mark : Irregularity → Irregularity) (s : State) (sh : Shell) : Shell :=
  { sh with
    phase := .complete s.currentLength
    runs := Vector.replicate 8 .none
    irregular := mark sh.irregular }

section
variable {s : State} {i : Fin 4} {sh : Shell} (hi : s.scs.contexts[i] = .some sh)
  (gap : s.lineField (·.ringOffset) + s.lineField (·.tailMargin) = 0)
  (mark : Irregularity → Irregularity)
include hi gap

/-- At the ring the context that closes is COMPLETE, with the flags of its completion. -/
theorem enterClosing_completes : (s.enterClosing i mark).scs.contexts =
      s.scs.contexts.set i (.some (closedAtRing mark s sh)) ∧
    ∀ g, (s.enterClosing i mark).flag g =
      if g = .shellComplete ∨ g = .tailIrregular ∧ (mark sh.irregular).tail = true then
        (s.flag g).occur (.some sh.sequence)
      else s.flag g := by
  have closing : (s.shellAt i (enteredClosing mark s)).scs.contexts[i] =
      .some (enteredClosing mark s sh) := by
    rw [shellAt_of_context hi]
    exact (contexts_set_get _ _ _ _).trans (if_pos rfl)
  rw [enterClosing_atRing (by omega) (by omega)]
  constructor
  · rw [complete_contexts closing, shellAt_of_context hi, completed_closing rfl]
    exact Vector.set_set ..
  · intro g
    rw [complete_flag closing rfl]
    rfl

end

/-- A shell that is COMPLETE has left the ring to the others. -/
theorem gauging_set_complete {s t : State} {i : Fin 4} {done : Shell}
    (h : t.scs.contexts = s.scs.contexts.set i (.some done)) (complete : done.isComplete = true) :
    t.gauging = true ↔ ∃ j, j ≠ i ∧ s.holds Shell.inRing j = true := by
  have holds : ∀ j, t.holds Shell.inRing j =
      if i = j then done.inRing else s.holds Shell.inRing j := by
    intro j
    rw [State.holds, h, contexts_set_get]
    split <;> rfl
  rw [gauging_iff]
  constructor
  · rintro ⟨j, hj⟩
    rw [holds j] at hj
    split at hj
    · rw [isComplete_inRing complete] at hj
      cases hj
    · next hne => exact ⟨j, Ne.symm hne, hj⟩
  · rintro ⟨j, hne, hj⟩
    exact ⟨j, by rw [holds j, if_neg (Ne.symm hne)]; exact hj⟩

/-- A boundary leaves the counts of the Tracking Unit and of the SCS. -/
theorem ShellsMove.boundary_counters {s t : State} (h : ShellsMove s t) :
    t.boundary.counters.tru = s.counters.tru ∧ t.boundary.counters.scs = s.counters.scs := by
  have tracks := boundary_tracksOn t
  rw [tracks.counted, tracks.shells, h.counters]
  exact ⟨rfl, rfl⟩

theorem irregular_iff (r : Irregularity) : r.tail = true ↔
    r.tailForced = true ∨ r.tailCut = true ∨ r.dwell = true ∨ r.tailStalled = true := by
  simp only [Irregularity.tail, Bool.or_eq_true, or_assoc]

/-- Settles O30: with no shell OPEN the tail is stray; short of the ring the shell is CLOSING and
keeps the ring; at the ring it completes, and the boundary follows when it was the last. -/
theorem tailEndClosesTheOpenShell : Obligations.TailEndClosesTheOpenShell := by
  unfold Obligations.TailEndClosesTheOpenShell
  intro s u row from_row one length gap
  obtain ⟨q, exec_eq⟩ := exec_tailEndFrom from_row
  have ends := tailEndFrom_ends from_row
  have mark : (rowState s u q).currentLength = length := ends.currentLength q
  have one' : (rowState s u q).OneOpen := one
  refine ⟨fun shut => ?_, fun i sh hi isOpen short => ?_, fun i sh hi isOpen atRing => ?_⟩
  · have stray := tailEnd_stray (s := rowState s u q) shut
    rw [exec_eq, stray, rowEnd_tally, ends.eq]
    rfl
  · have closes : (rowState s u q).tailEnd =
        (rowState s u q).shellAt i (enteredClosing id (rowState s u q)) := by
      rw [tailEnd_closes one' hi isOpen, enterClosing_short (s := rowState s u q) short,
        boundary_gauging (closing_gauging (s := rowState s u q) hi id)]
    rw [exec_eq, closes, shellAt_of_context (s := rowState s u q) hi, enteredClosing, mark]
    refine congrArg Host.Outcome.next ((rowEnd_same u rfl rfl rfl).trans ?_)
    rw [ends.eq]
    rfl
  · intro contexts
    have completes := enterClosing_completes (s := rowState s u q) hi atRing id
    have moves := enterClosing_shellsMove i id (rowState s u q)
    rw [tailEnd_closes one' hi isOpen] at exec_eq
    generalize (rowState s u q).enterClosing i id = w at completes moves exec_eq
    obtain ⟨done, flag⟩ := completes
    rw [closedAtRing, mark] at done
    have ring := gauging_set_complete done rfl
    have counters := moves.boundary_counters
    have flags : ∀ g, g ≠ .tablesActivated → (rowEnd s u w.boundary).flag g = w.flag g :=
      fun g hg => (rowEnd_flag s u _ g).trans (boundary_flag hg w)
    refine ⟨_, exec_eq, ?_, ?_, ?_, fun g hc ht ha => ?_, fun other => ?_, fun last hm => ?_, ?_,
      ?_, rowEnd_cmu .., ?_, ?_, ?_, ?_⟩
    · rw [rowEnd_scs, boundary_contexts, done]; rfl
    · rw [flags _ (by decide), flag, if_pos (.inl rfl)]; rfl
    · rw [flags _ (by decide), flag]
      simp only [reduceCtorEq, false_or, true_and, irregular_iff]
      rfl
    · rw [flags g ha, flag, if_neg (by simp only [hc, ht, false_and, or_self, not_false_eq_true])]
      rfl
    · have stays : w.boundary = w := boundary_gauging (ring.mpr other)
      have ended : rowEnd s u w = { w with cmu := u.cmu } :=
        rowEnd_same u (by rw [moves.scs]; rfl) (by rw [moves.rfs]; rfl) (by rw [moves.tbs]; rfl)
      rw [stays, ended]
      refine ⟨?_, moves.tbs, moves.tru, moves.rfs, moves.etu, moves.ali, ?_⟩
      · exact moves.scs.trans (by rw [done]; rfl)
      · exact (flag _).trans (if_neg (by simp))
    · have idle : w.gauging = false := Bool.eq_false_iff.mpr fun h => by
        obtain ⟨j, hne, hj⟩ := ring.mp h
        exact Bool.false_ne_true ((last j hne).symm.trans hj)
      have boundary := moves.boundaryTo (by rw [flag]; rfl) idle hm
      rw [done] at boundary
      exact boundaryTo_ended (s := s) boundary (rowEnd_tbs ..) (rowEnd_scs ..) (rowEnd_tru ..)
        (rowEnd_pins ..) (rowEnd_etu ..) (rowEnd_channels ..) (rowEnd_counters ..)
        (rowEnd_flag _ _ _)
    · rw [rowEnd_counters, counters.1]; rfl
    · rw [rowEnd_counters, counters.2]; rfl
    · exact (rowEnd_rpb ..).trans ((boundary_rpb w).trans (by rw [moves]; rfl))
    · exact (rowEnd_ldu ..).trans ((boundary_ldu w).trans (by rw [moves]; rfl))
    · exact (rowEnd_mli ..).trans ((boundary_mli w).trans (by rw [moves]; rfl))
    · exact (rowEnd_pins ..).trans ((boundary_pins w).trans (by rw [moves]; rfl))

end Sys2Proof.Proofs
end

section
/-! PROOFS. Completions oldest first (R82, R84): the contexts that complete, in the order of their
numbers, and the flags they raise. -/

namespace Sys2Proof.Proofs

open Sys2Proof.Machine Sys2Proof.Laws

/-! ### The numbers of the contexts with a property, oldest first (R72) -/

/-- The oldest context with the property has the first of the numbers. -/
theorem oldestFirst_head {s : State} {r : Shell → Bool} {numbers : List Nat} {i : Fin 4}
    {sh : Shell}
    (h : s.OldestFirst r numbers) (hi : s.scs.contexts[i] = .some sh) (hr : r sh = true)
    (least : ∀ j, s.holds r j = true → s.sequenceAt i ≤ s.sequenceAt j) :
    ∃ rest, numbers = sh.sequence :: rest := by
  obtain ⟨ascending, members⟩ := h
  have mem : sh.sequence ∈ numbers := (members _).mpr ⟨i, sh, hi, hr, rfl⟩
  cases numbers with
  | nil => cases mem
  | cons q rest =>
    obtain ⟨j, other, hj, otherHas, rfl⟩ := (members q).mp List.mem_cons_self
    have above := least j ((holds_of_context hj r).trans otherHas)
    rw [sequenceAt_of_context hi, sequenceAt_of_context hj] at above
    rcases List.mem_cons.mp mem with same | later
    · exact ⟨rest, by rw [same]⟩
    · exact absurd above (not_le.mpr (List.rel_of_pairwise_cons ascending later))

section
variable {s t : State} {r : Shell → Bool} {i : Fin 4} {sh b : Shell}
  (hi : s.scs.contexts[i] = .some sh) (ht : t.scs.contexts = s.scs.contexts.set i (.some b))
  (hb : r b = false)
include ht hb

/-- The contexts with the property once one has lost it. -/
theorem holder_set (j : Fin 4) (other : Shell) :
    t.scs.contexts[j] = .some other ∧ r other = true ↔
      i ≠ j ∧ s.scs.contexts[j] = .some other ∧ r other = true := by
  rw [ht, contexts_set_get]
  by_cases e : i = j
  · simp only [e, if_true, ne_eq, not_true_eq_false, false_and, iff_false]
    rintro ⟨same, has⟩
    cases same
    rw [hb] at has
    cases has
  · simp only [e, if_false, ne_eq, not_false_eq_true, true_and]

include hi

/-- A context that did not have the property leaves the numbers. -/
theorem oldestFirst_keep {numbers : List Nat} (hr : r sh = false) (h : s.OldestFirst r numbers) :
    t.OldestFirst r numbers := by
  obtain ⟨ascending, members⟩ := h
  refine ⟨ascending, fun q => (members q).trans ?_⟩
  simp only [← and_assoc, holder_set ht hb]
  constructor
  · rintro ⟨j, other, ⟨hj, has⟩, rfl⟩
    refine ⟨j, other, ⟨⟨fun e => ?_, hj⟩, has⟩, rfl⟩
    subst e
    cases hi.symm.trans hj
    rw [hr] at has
    cases has
  · rintro ⟨j, other, ⟨⟨-, hj⟩, has⟩, rfl⟩
    exact ⟨j, other, ⟨hj, has⟩, rfl⟩

/-- The first number leaves with its context. -/
theorem oldestFirst_tail {rest : List Nat} (ordered : s.SequencesOrdered)
    (h : s.OldestFirst r (sh.sequence :: rest)) : t.OldestFirst r rest := by
  obtain ⟨ascending, members⟩ := h
  obtain ⟨-, -, distinct⟩ := ordered
  refine ⟨ascending.of_cons, fun q => ?_⟩
  simp only [← and_assoc, holder_set ht hb]
  constructor
  · intro hq
    obtain ⟨j, other, hj, has, rfl⟩ := (members q).mp (List.mem_cons_of_mem _ hq)
    refine ⟨j, other, ⟨⟨fun e => ?_, hj⟩, has⟩, rfl⟩
    subst e
    cases hi.symm.trans hj
    exact lt_irrefl _ (List.rel_of_pairwise_cons ascending hq)
  · rintro ⟨j, other, ⟨⟨hne, hj⟩, has⟩, rfl⟩
    have mem := (members other.sequence).mpr ⟨j, other, hj, has, rfl⟩
    exact (List.mem_cons.mp mem).resolve_left fun same =>
      hne (distinct i j sh other hi hj same.symm)

end

/-! ### Completions without a boundary -/

/-- At most `n` of the contexts with `p` complete, oldest first. -/
def completeOldest (p : Shell → Bool) (mark : Irregularity → Irregularity) : Nat → State → State
  | 0, s => s
  | n + 1, s =>
    match s.oldest p with
    | .none => s
    | .some i => completeOldest p mark n (s.complete i mark)

/-- The shell of a context, completed if it has `p`. -/
def completedIf (p : Shell → Bool) (mark : Irregularity → Irregularity) (sh : Shell) : Shell :=
  if p sh then completed mark sh else sh

/-- The contexts with a property. -/
def having (s : State) (p : Shell → Bool) : Finset (Fin 4) :=
  Finset.univ.filter fun i => s.holds p i = true

theorem having_card_le (s : State) (p : Shell → Bool) : (having s p).card ≤ 4 :=
  (Finset.card_le_univ _).trans (by simp)

theorem completed_isClosing (mark : Irregularity → Irregularity) (sh : Shell) :
    (completed mark sh).isClosing = false := by
  cases closing : sh.isClosing with
  | true =>
    obtain ⟨tailMark, timer, completion, hp⟩ := (isClosing_iff sh).mp closing
    rw [completed_closing hp]
    rfl
  | false => rw [completed_elsewhere closing, closing]

theorem completeOldest_shellsMove (p : Shell → Bool) (mark : Irregularity → Irregularity) (n : Nat)
    (s : State) : ShellsMove s (completeOldest p mark n s) := by
  induction n generalizing s with
  | zero => exact .refl s
  | succ n ih =>
    unfold completeOldest
    split
    · exact .refl s
    · exact (complete_shellsMove _ mark s).trans (ih _)

theorem completeOldest_none {s : State} {p : Shell → Bool} (h : ∀ i, s.holds p i = false)
    (mark : Irregularity → Irregularity) (n : Nat) : completeOldest p mark n s = s := by
  cases n with
  | zero => rfl
  | succ n => rw [completeOldest, oldest_eq_none h]

section
variable {p : Shell → Bool} (hp : ∀ sh, p sh = true → sh.isClosing = true)
  (mark : Irregularity → Irregularity)
include hp

/-- A shell that has completed has not the property. -/
theorem completed_lacks (sh : Shell) : p (completed mark sh) = false :=
  Bool.eq_false_iff.mpr fun h =>
    Bool.false_ne_true ((completed_isClosing mark sh).symm.trans (hp _ h))

/-- Each completion leaves one context fewer with the property. -/
theorem having_complete {s : State} {i : Fin 4} {n : Nat} (hi : s.holds p i = true)
    (h : (having s p).card ≤ n + 1) : (having (s.complete i mark) p).card ≤ n := by
  obtain ⟨sh, hsh, -⟩ := (holds_iff s p i).mp hi
  have fewer : having (s.complete i mark) p ⊆ (having s p).erase i := by
    intro j hj
    obtain ⟨other, found⟩ := (holds_iff _ p j).mp (Finset.mem_filter.mp hj).2
    obtain ⟨hne, hother, has⟩ :=
      (holder_set (complete_contexts hsh mark) (completed_lacks hp mark sh) j other).mp found
    exact Finset.mem_erase.mpr ⟨Ne.symm hne, Finset.mem_filter.mpr
      ⟨Finset.mem_univ j, (holds_iff s p j).mpr ⟨other, hother, has⟩⟩⟩
  have mem : i ∈ having s p := Finset.mem_filter.mpr ⟨Finset.mem_univ i, hi⟩
  have card := Finset.card_le_card fewer
  rw [Finset.card_erase_of_mem mem] at card
  omega

/-- The completions one after another: nothing is left to complete, or the oldest completes and the
rest follows. -/
theorem completeOldest_induction {motive : State → State → Prop}
    (none : ∀ s, (∀ i, s.holds p i = false) → motive s s)
    (some : ∀ s i sh t, s.oldest p = .some i → s.scs.contexts[i] = .some sh → p sh = true →
      motive (s.complete i mark) t → motive s t) {n : Nat} {s : State}
    (h : (having s p).card ≤ n) : motive s (completeOldest p mark n s) := by
  induction n generalizing s with
  | zero =>
    have empty := Finset.card_eq_zero.mp (Nat.le_zero.mp h)
    exact none s fun i => Bool.eq_false_iff.mpr fun hi => Finset.notMem_empty i
      (empty ▸ Finset.mem_filter.mpr ⟨Finset.mem_univ i, hi⟩)
  | succ n ih =>
    unfold completeOldest
    split
    · next oldest => exact none s (oldest_none oldest)
    · next i oldest =>
      have hi := (oldest_some oldest).1
      obtain ⟨sh, hsh, has⟩ := (holds_iff s p i).mp hi
      exact some s i sh _ oldest hsh has (ih (having_complete hp mark hi h))

/-- Every context with the property completes, and every other stands. -/
theorem completeOldest_contexts {n : Nat} {s : State} (h : (having s p).card ≤ n) :
    (completeOldest p mark n s).scs.contexts =
      s.scs.contexts.map (Option.map (completedIf p mark)) := by
  refine completeOldest_induction hp mark (motive := fun s t => t.scs.contexts =
    s.scs.contexts.map (Option.map (completedIf p mark))) (fun s none => ?_)
    (fun s i sh t _ hi has ih => ?_) h
  · refine Vector.ext fun j hj => ?_
    rw [Vector.getElem_map]
    cases hc : s.scs.contexts[j] with
    | none => rfl
    | some sh =>
      have lacks : p sh = false := (holds_of_context (i := ⟨j, hj⟩) hc p).symm.trans (none ⟨j, hj⟩)
      rw [Option.map_some, completedIf, if_neg (by rw [lacks]; exact Bool.false_ne_true)]
  · rw [ih, complete_contexts hi]
    refine Vector.ext fun j hj => ?_
    simp only [Vector.getElem_map, Vector.getElem_set]
    split
    · next e =>
      subst e
      have lost := completed_lacks hp mark sh
      have at_i : s.scs.contexts[i.val] = .some sh := hi
      rw [at_i, Option.map_some, Option.map_some, completedIf, completedIf, if_pos has,
        if_neg (by rw [lost]; exact Bool.false_ne_true)]
    · rfl

/-- A flag that each completion raises for the shells with `r`, and for those alone, occurs for each
of their numbers. -/
theorem completeOldest_occurs {g : Machine.Flag} {r : Shell → Bool}
    (sub : ∀ sh, r sh = true → p sh = true)
    (each : ∀ (s : State) (i : Fin 4) (sh : Shell), s.scs.contexts[i] = .some sh → p sh = true →
      (s.complete i mark).flag g =
        if r sh then (s.flag g).occur (.some sh.sequence) else s.flag g)
    {n : Nat} {s : State} (h : (having s p).card ≤ n) : s.SequencesOrdered → ∀ numbers,
      s.OldestFirst r numbers →
      (completeOldest p mark n s).flag g = (s.flag g).occurEach numbers := by
  refine completeOldest_induction hp mark (motive := fun s t => s.SequencesOrdered → ∀ numbers,
    s.OldestFirst r numbers → t.flag g = (s.flag g).occurEach numbers) (fun s none => ?_)
    (fun s i sh t oldest hi has ih => ?_) h
  · rintro - numbers ⟨-, members⟩
    cases numbers with
    | nil => rfl
    | cons q rest =>
      obtain ⟨j, sh, hj, has, -⟩ := (members q).mp List.mem_cons_self
      exact absurd ((holds_of_context hj p).trans (sub sh has))
        (by rw [none j]; exact Bool.false_ne_true)
  · intro ordered numbers first
    have ordered' := (complete_opensNone i mark s).keepsDistinct.ordered ordered
    have contexts := complete_contexts hi mark
    have lost : r (completed mark sh) = false := Bool.eq_false_iff.mpr fun hr =>
      Bool.false_ne_true ((completed_lacks hp mark sh).symm.trans (sub _ hr))
    cases hr : r sh with
    | true =>
      have least : ∀ j, s.holds r j = true → s.sequenceAt i ≤ s.sequenceAt j := fun j hj => by
        obtain ⟨other, hother, otherHas⟩ := (holds_iff s r j).mp hj
        exact (oldest_some oldest).2 j ((holds_of_context hother p).trans (sub other otherHas))
      obtain ⟨rest, rfl⟩ := oldestFirst_head first hi hr least
      rw [ih ordered' rest (oldestFirst_tail hi contexts lost ordered first), each s i sh hi has,
        if_pos hr, occurEach_cons]
    | false =>
      rw [ih ordered' numbers (oldestFirst_keep hi contexts lost hr first), each s i sh hi has,
        if_neg (by rw [hr]; exact Bool.false_ne_true)]

/-- SHELL_COMPLETE occurs for each context with the property, oldest first (R84). -/
theorem completeOldest_shellComplete {n : Nat} {s : State} (h : (having s p).card ≤ n)
    (ordered : s.SequencesOrdered) {numbers : List Nat} (first : s.OldestFirst p numbers) :
    (completeOldest p mark n s).flag .shellComplete =
      (s.flag .shellComplete).occurEach numbers :=
  completeOldest_occurs hp mark (fun _ has => has)
    (fun s i sh hi has => by rw [complete_flag hi (hp sh has), has]; rfl) h ordered numbers first

/-- TAIL_IRREGULAR occurs for each of them that completes under a tail flag (R84). -/
theorem completeOldest_tailIrregular {n : Nat} {s : State} (h : (having s p).card ≤ n)
    (ordered : s.SequencesOrdered) {numbers : List Nat}
    (first : s.OldestFirst (fun sh => p sh && (mark sh.irregular).tail) numbers) :
    (completeOldest p mark n s).flag .tailIrregular =
      (s.flag .tailIrregular).occurEach numbers :=
  completeOldest_occurs hp mark (fun _ has => (Bool.and_eq_true_iff.mp has).1)
    (fun s i sh hi has => by
      rw [complete_flag hi (hp sh has), has]
      simp only [reduceCtorEq, false_or, true_and, Bool.true_and]) h ordered numbers first

/-- No other flag occurs. -/
theorem completeOldest_flag_other {g : Machine.Flag} (hc : g ≠ .shellComplete)
    (ht : g ≠ .tailIrregular) {n : Nat} {s : State} (h : (having s p).card ≤ n) :
    (completeOldest p mark n s).flag g = s.flag g := by
  refine completeOldest_induction hp mark (motive := fun s t => t.flag g = s.flag g)
    (fun s _ => rfl) (fun s i sh t _ hi has ih => ?_) h
  rw [ih, complete_flag hi (hp sh has)]
  exact if_neg (by simp only [hc, ht, false_and, or_self, not_false_eq_true])

end

end Sys2Proof.Proofs
end

section
/-! PROOFS. The length advance (O27): the CLOSING shells it reaches complete oldest first, and the
last to leave the ring brings the boundary (R59, R82, R84). -/

namespace Sys2Proof.Proofs

open Sys2Proof.Machine Sys2Proof.Laws

/-! ### The shells reached (R82) -/

theorem reached_isClosing {length : Nat} {sh : Shell} (h : sh.reached length = true) :
    sh.isClosing = true := by
  unfold Shell.reached at h
  split at h
  · next hp => exact (isClosing_iff sh).mpr ⟨_, _, _, hp⟩
  · cases h

/-- With no shell in the ring none is reached. -/
theorem reached_idle {s : State} (idle : s.gauging = false) (length : Nat) (i : Fin 4) :
    s.holds (Shell.reached length) i = false := by
  refine Bool.eq_false_iff.mpr fun h => ?_
  obtain ⟨sh, hi, reached⟩ := (holds_iff s _ i).mp h
  have inRing : sh.inRing = true := by rw [Shell.inRing, reached_isClosing reached, Bool.or_true]
  exact Bool.false_ne_true (idle.symm.trans
    ((gauging_iff s).mpr ⟨i, (holds_of_context hi _).trans inRing⟩))

theorem completeReached_none {s : State}
    (h : ∀ i, s.holds (Shell.reached s.currentLength) i = false)
    (n : Nat) : s.completeReached n = s := by
  cases n with
  | zero => rfl
  | succ n => rw [State.completeReached, oldest_eq_none h]

/-- The boundary that follows each completion comes to one boundary after the last of them: while a
shell is in the ring it does nothing, and once none is nothing is left to reach. -/
theorem completeReached_some {n : Nat} {s : State} {i : Fin 4}
    (h : s.oldest (Shell.reached s.currentLength) = .some i) : s.completeReached (n + 1) =
      (completeOldest (Shell.reached s.currentLength) id (n + 1) s).boundary := by
  induction n generalizing s i with
  | zero =>
    unfold State.completeReached completeOldest
    rw [h]
    rfl
  | succ n ih =>
    have length : (s.complete i id).currentLength = s.currentLength := by
      rw [State.currentLength, complete_tru, State.currentLength]
    rw [State.completeReached, completeOldest, h]
    dsimp only
    cases ring : (s.complete i id).gauging with
    | true =>
      rw [boundary_gauging ring, ← length]
      cases next : (s.complete i id).oldest (Shell.reached (s.complete i id).currentLength) with
      | none =>
        rw [completeReached_none (oldest_none next), completeOldest_none (oldest_none next),
          boundary_gauging ring]
      | some j => exact ih next
    | false =>
      have settled : (s.complete i id).boundary.gauging = false :=
        (gauging_congr (boundary_contexts _)).trans ring
      rw [completeReached_none (reached_idle settled _), completeOldest_none (reached_idle ring _)]

/-- A length advance completes what it reaches, and the boundary follows when it reached a shell. -/
theorem lengthAdvance_eq (s : State) :
    (∃ i, s.holds (Shell.reached s.currentLength) i = true) ∧ s.lengthAdvance =
        (completeOldest (Shell.reached s.currentLength) id 4 s).boundary ∨
      (∀ i, s.holds (Shell.reached s.currentLength) i = false) ∧ s.lengthAdvance = s ∧
        completeOldest (Shell.reached s.currentLength) id 4 s = s := by
  unfold State.lengthAdvance
  cases h : s.oldest (Shell.reached s.currentLength) with
  | none =>
    have none := oldest_none h
    exact .inr ⟨none, completeReached_none none 4, completeOldest_none none id 4⟩
  | some i => exact .inl ⟨⟨i, (oldest_some h).1⟩, completeReached_some h⟩

/-- What a length advance makes of the state: the contexts, the flags, and the boundary if it comes
to one. -/
structure LengthAdvanced (s t : State) : Prop where
  contexts : t.scs.contexts =
    s.scs.contexts.map (Option.map (completedIf (Shell.reached s.currentLength) id))
  shellComplete : s.SequencesOrdered → ∀ numbers,
    s.OldestFirst (Shell.reached s.currentLength) numbers →
    t.flag .shellComplete = (s.flag .shellComplete).occurEach numbers
  tailIrregular : s.SequencesOrdered → ∀ numbers,
    s.OldestFirst (fun sh => sh.reached s.currentLength && sh.irregular.tail) numbers →
    t.flag .tailIrregular = (s.flag .tailIrregular).occurEach numbers
  flag : ∀ g, g ≠ .shellComplete → g ≠ .tailIrregular → g ≠ .tablesActivated →
    t.flag g = s.flag g
  stands : t.gauging = true ∨ (∀ i, s.holds (Shell.reached s.currentLength) i = false) →
    ShellsMove s t ∧ t.flag .tablesActivated = s.flag .tablesActivated
  boundary : t.gauging = false → (∃ i, s.holds (Shell.reached s.currentLength) i = true) →
    s.scs.mode = .measuring → s.BoundaryTo t.scs.contexts s.tru t

theorem lengthAdvance_advanced (s : State) : LengthAdvanced s s.lengthAdvance := by
  have closing : ∀ sh, Shell.reached s.currentLength sh = true → sh.isClosing = true :=
    fun _ => reached_isClosing
  have card := having_card_le s (Shell.reached s.currentLength)
  have moves := completeOldest_shellsMove (Shell.reached s.currentLength) id 4 s
  have done := completeOldest_contexts closing id card
  have completes := completeOldest_shellComplete closing id card
  have irregulars := completeOldest_tailIrregular closing id card
  have others (g : Machine.Flag) (hc : g ≠ .shellComplete) (ht : g ≠ .tailIrregular) :=
    completeOldest_flag_other closing id hc ht card
  have tables := others .tablesActivated (by decide) (by decide)
  rcases lengthAdvance_eq s with ⟨⟨i, reached⟩, eq⟩ | ⟨none, eq, same⟩
  · rw [eq]
    generalize completeOldest (Shell.reached s.currentLength) id 4 s = w at *
    have ring : w.boundary.gauging = w.gauging := gauging_congr (boundary_contexts w)
    refine ⟨(boundary_contexts w).trans done, fun ordered numbers first => ?_,
      fun ordered numbers first => ?_, fun g hc ht ha => ?_, fun stays => ?_, fun idle _ hm => ?_⟩
    · rw [boundary_flag (by decide), completes ordered first]
    · rw [boundary_flag (by decide), irregulars ordered first]
    · rw [boundary_flag ha, others g hc ht]
    · have gauging := ring.symm.trans (stays.resolve_right fun none =>
        Bool.false_ne_true ((none i).symm.trans reached))
      rw [boundary_gauging gauging]
      exact ⟨moves, tables⟩
    · rw [boundary_contexts]
      exact moves.boundaryTo tables (ring.symm.trans idle) hm
  · rw [same] at done completes irregulars
    rw [eq]
    exact ⟨done, fun ordered _ => completes ordered, fun ordered _ => irregulars ordered,
      fun _ _ _ _ => rfl, fun _ => ⟨.refl s, rfl⟩, fun _ ⟨i, reached⟩ =>
        absurd (none i) (by rw [reached]; nofun)⟩

/-- A counted edge that raises the current length is told to the SCS, and the shells follow it. -/
theorem exec_pulseEdge_advances {s : State} {high : Bool} {setup : LineSetup}
    (live : s.resetHeld = false) (edge : high ≠ s.tru.pulseLevel) (line : s.line = .some setup)
    (selected : setup.pulseEdge.counts high = true)
    (rise : s.currentLength < (travelled high setup s).currentLength) :
    ∃ y, exec (.pulseEdge high) s = .next ((sawPulse high s).reportDrained y) ∧
      LengthAdvanced (travelled high setup s) y ∧ TracksOn (travelled high setup s) y ∧
      y.rpb = s.rpb ∧ y.ldu = s.ldu ∧ y.cmu = s.cmu ∧ y.mli = s.mli := by
  have advance := takePulse_counted edge line selected
  rw [if_pos rise] at advance
  obtain ⟨-, outside⟩ := takePulse_outside edge line selected
  have tracks := takePulse_tracksOn edge line selected
  rw [advance] at outside tracks
  exact ⟨_, by rw [exec_pulseEdge live, advance], lengthAdvance_advanced _, tracks, outside⟩

/-- Settles O27: the shells reached complete oldest first, each with its flags, and the boundary
follows the last of them when no shell stays in the ring. -/
theorem lengthAdvanceCompletesReachedShells : Obligations.LengthAdvanceCompletesReachedShells := by
  unfold Obligations.LengthAdvanceCompletesReachedShells
  intro high setup s live edge line counts counter length tru reached irregular contexts stays rise
  obtain ⟨y, exec_eq, advanced, tracks, rpb, ldu, cmu, mli⟩ :=
    exec_pulseEdge_advances live edge line ((counts_iff _ _).mpr counts) rise
  have reaches : Shell.reached (travelled high setup s).currentLength = reached := by
    funext sh
    show Shell.reached length sh = reached sh
    unfold Shell.reached
    cases hp : sh.phase <;> simp only [reached, hp]
  have shell : completedIf reached id = fun sh => match sh.phase with
      | .closing tailMark _ completion =>
        if completion ≤ length then
          { sh with phase := .complete tailMark, runs := Vector.replicate 8 .none }
        else sh
      | _ => sh := by
    funext sh
    unfold completedIf
    cases hp : sh.phase with
    | closing tailMark timer completion =>
      rw [completed_closing hp]
      simp only [reached, hp, decide_eq_true_eq, id]
    | _ => simp only [reached, hp, Bool.false_eq_true, if_false]
  have done : y.scs.contexts = contexts := by
    rw [advanced.contexts, reaches, shell]
    rfl
  have flag (g : Machine.Flag) : ((sawPulse high s).reportDrained y).flag g = y.flag g :=
    flag_congr (congrArg (·.flags) (reportDrained_evu _ y)) g
  have ring : y.gauging = true ↔ stays := by
    rw [gauging_iff]
    simp only [holds_iff, done]
    rfl
  refine ⟨_, exec_eq, ?_, fun ordered numbers first => ?_, fun ordered numbers first => ?_,
    fun g hc ht ha => ?_, fun still => ?_, fun last some hm => ?_, ?_, ?_, ?_, ?_, ?_⟩
  · rw [reportDrained_scs, done]
  · rw [flag, advanced.shellComplete ordered numbers (by rw [reaches]; exact first)]
    rfl
  · rw [flag, advanced.tailIrregular ordered numbers (by rw [reaches]; exact first)]
    rfl
  · rw [flag, advanced.flag g hc ht ha]
    rfl
  · obtain ⟨moves, tables⟩ := advanced.stands (still.imp ring.mpr fun none => by
      rw [reaches]; exact none)
    have ended : (sawPulse high s).reportDrained y = y := reportDrained_same
      (by rw [moves.scs]; rfl) (by rw [moves.rfs]; rfl) (by rw [moves.tbs]; rfl)
    rw [ended]
    exact ⟨moves.scs.trans (by rw [done]; rfl), moves.tbs, moves.tru, moves.rfs, moves.etu,
      moves.ali, tables⟩
  · have boundary := advanced.boundary (Bool.eq_false_iff.mpr fun h => last (ring.mp h))
      (by rw [reaches]; exact some) hm
    rw [done] at boundary
    exact boundaryTo_ended (s := s) boundary (reportDrained_tbs ..) (reportDrained_scs ..)
      (reportDrained_tru ..) (reportDrained_pins ..) (reportDrained_etu ..)
      (reportDrained_channels ..) (reportDrained_counters ..) flag
  · rw [reportDrained_counters, tracks.counted]
    rfl
  · rw [reportDrained_rpb, rpb]
  · rw [reportDrained_ldu, ldu]
  · rw [reportDrained_cmu, cmu]
  · rw [reportDrained_mli, mli]

end Sys2Proof.Proofs
end

section
/-! PROOFS. The head-end that finds a shell in the ring: the OPEN shell closed with TAIL_FORCED, and
with an activation pending the tails cut and the staged set applied (R74, R75, R136). -/

namespace Sys2Proof.Proofs

open Sys2Proof.Machine Sys2Proof.Laws

/-! ### A shell closed (R79) -/

/-- The way of a tail from the detector to its completion: ring offset and tail margin. -/
def ringGap (s : State) : Nat := s.lineField (·.ringOffset) + s.lineField (·.tailMargin)

/-- The OPEN shell as it closes: CLOSING, or COMPLETE on a line where the tail is at the ring. -/
def closedShell (mark : Irregularity → Irregularity) (s : State) (sh : Shell) : Shell :=
  { sh with
    phase := if 0 < ringGap s then .closing s.currentLength (s.lineField (·.tailTimeout))
        (s.currentLength + s.lineField (·.ringOffset) + s.lineField (·.tailMargin))
      else .complete s.currentLength
    runs := if 0 < ringGap s then sh.runs else Vector.replicate 8 .none
    irregular := mark sh.irregular }

theorem closedShell_short {s : State} (short : 0 < ringGap s) (mark : Irregularity → Irregularity)
    (sh : Shell) : closedShell mark s sh = enteredClosing mark s sh := by
  simp only [closedShell, if_pos short, enteredClosing]

theorem closedShell_atRing {s : State} (atRing : ringGap s = 0)
    (mark : Irregularity → Irregularity) (sh : Shell) :
    closedShell mark s sh = closedAtRing mark s sh := by
  simp only [closedShell, atRing, lt_irrefl, if_false, closedAtRing]

theorem closedShell_shut (mark : Irregularity → Irregularity) (s : State) (sh : Shell) :
    (closedShell mark s sh).isOpen = false := by
  rcases Nat.eq_zero_or_pos (ringGap s) with atRing | short
  · rw [closedShell_atRing atRing]; rfl
  · rw [closedShell_short short]; rfl

section
variable {s : State} {i : Fin 4} {sh : Shell} (hi : s.scs.contexts[i] = .some sh)
  (mark : Irregularity → Irregularity)
include hi

theorem enterClosing_contexts : (s.enterClosing i mark).scs.contexts =
    s.scs.contexts.set i (.some (closedShell mark s sh)) := by
  rcases Nat.eq_zero_or_pos (ringGap s) with atRing | short
  · rw [(enterClosing_completes hi atRing mark).1, closedShell_atRing atRing]
  · rw [enterClosing_short short, shellAt_of_context hi, closedShell_short short]

/-- Only a shell that completes as it closes raises a flag. -/
theorem enterClosing_flag (g : Machine.Flag) : (s.enterClosing i mark).flag g =
    if ringGap s = 0 ∧ (g = .shellComplete ∨ g = .tailIrregular ∧ (mark sh.irregular).tail = true)
    then (s.flag g).occur (.some sh.sequence) else s.flag g := by
  rcases Nat.eq_zero_or_pos (ringGap s) with atRing | short
  · rw [(enterClosing_completes hi atRing mark).2 g]
    simp only [atRing, true_and]
  · rw [enterClosing_short short, if_neg fun h => short.ne' h.1]
    rfl

end

/-! ### Step 1 (R75) -/

/-- TAIL_FORCED is added. -/
def forcing (r : Irregularity) : Irregularity := { r with tailForced := true }

/-- TAIL_CUT is added. -/
def cutting (r : Irregularity) : Irregularity := { r with tailCut := true }

/-- The shell of a context after step 1 of a head-end. -/
def forcedShell (s : State) (sh : Shell) : Shell :=
  if sh.isOpen then closedShell forcing s sh else sh

theorem headStep1_open {s : State} {j : Fin 4} {sh : Shell} (one : s.OneOpen)
    (hj : s.scs.contexts[j] = .some sh) (isOpen : sh.isOpen = true) :
    s.headStep1 = s.enterClosing j forcing := by
  rw [State.headStep1, openContext_eq one ((holds_of_context hj _).trans isOpen)]
  rfl

theorem headStep1_idle {s : State} (shut : ∀ j, s.holds Shell.isOpen j = false) :
    s.headStep1 = s := by
  rw [State.headStep1, openContext_none shut]

theorem headStep1_shellsMove (s : State) : ShellsMove s s.headStep1 := by
  unfold State.headStep1
  split
  · exact enterClosing_shellsMove _ _ s
  · exact .refl s

/-- A shell is OPEN in one context, or in none. -/
theorem open_cases (s : State) : (∀ j, s.holds Shell.isOpen j = false) ∨
    ∃ (j : Fin 4) (sh : Shell), s.scs.contexts[j] = .some sh ∧ sh.isOpen = true := by
  cases h : s.openContext with
  | none => exact .inl (oldest_none h)
  | some j =>
    obtain ⟨sh, hj, isOpen⟩ := (holds_iff s _ j).mp (openContext_some h)
    exact .inr ⟨j, sh, hj, isOpen⟩

theorem headStep1_contexts {s : State} (one : s.OneOpen) :
    s.headStep1.scs.contexts = s.scs.contexts.map (Option.map (forcedShell s)) := by
  have stands : ∀ (k : Fin 4), s.holds Shell.isOpen k = false →
      s.scs.contexts[k].map (forcedShell s) = s.scs.contexts[k] := by
    intro k shut
    cases hk : s.scs.contexts[k] with
    | none => rfl
    | some sh =>
      rw [holds_of_context hk] at shut
      rw [Option.map_some, forcedShell, if_neg (by rw [shut]; exact Bool.false_ne_true)]
  rcases open_cases s with shut | ⟨j, sh, hj, isOpen⟩
  · rw [headStep1_idle shut]
    refine Vector.ext fun k hk => ?_
    rw [Vector.getElem_map]
    exact (stands ⟨k, hk⟩ (shut _)).symm
  · rw [headStep1_open one hj isOpen, enterClosing_contexts hj]
    refine Vector.ext fun k hk => ?_
    rw [Vector.getElem_map, Vector.getElem_set]
    split
    · next e =>
      subst e
      have at_j : s.scs.contexts[j.val] = .some sh := hj
      rw [at_j, Option.map_some, forcedShell, if_pos isOpen]
    · next e =>
      refine (stands ⟨k, hk⟩ (Bool.eq_false_iff.mpr fun h => e ?_)).symm
      exact congrArg Fin.val (one j ⟨k, hk⟩ ((holds_of_context hj _).trans isOpen) h)

/-! ### Step 2 (R75, R136) -/

theorem cutTails_eq (n : Nat) (s : State) :
    s.cutTails n = completeOldest Shell.isClosing cutting n s := by
  induction n generalizing s with
  | zero => rfl
  | succ n ih =>
    cases h : s.oldest Shell.isClosing with
    | none => simp only [State.cutTails, completeOldest, h]
    | some i =>
      simp only [State.cutTails, completeOldest, h]
      exact ih _

/-- The state once the tails are cut, before the staged set is applied. -/
def tailsCut (s : State) : State := completeOldest Shell.isClosing cutting 4 s.headStep1

theorem headSteps12_pending {s : State} (pending : s.tbs.activationPending = true) :
    s.headStep1.headStep2 = (tailsCut s).applyActivation := by
  rw [State.headStep2, if_pos (by rw [headStep1_tbs]; exact pending), cutTails_eq]
  rfl

/-- The shell of a context once the tails are cut. -/
def cutShell (s : State) (sh : Shell) : Shell :=
  completedIf Shell.isClosing cutting (forcedShell s sh)

theorem completedIf_sequence (p : Shell → Bool) (mark : Irregularity → Irregularity) (sh : Shell) :
    (completedIf p mark sh).sequence = sh.sequence := by
  unfold completedIf
  split
  · exact (completed_continues mark sh).sequence
  · rfl

theorem forcedShell_sequence (s : State) (sh : Shell) :
    (forcedShell s sh).sequence = sh.sequence := by
  unfold forcedShell
  split <;> rfl

theorem cutShell_sequence (s : State) (sh : Shell) : (cutShell s sh).sequence = sh.sequence :=
  (completedIf_sequence _ _ _).trans (forcedShell_sequence s sh)

theorem isComplete_of {sh : Shell} (shut : sh.isOpen = false) (cut : sh.isClosing = false) :
    sh.isComplete = true := by
  unfold Shell.isOpen at shut
  unfold Shell.isClosing at cut
  unfold Shell.isComplete
  cases hp : sh.phase <;> simp_all

theorem forcedShell_shut (s : State) (sh : Shell) : (forcedShell s sh).isOpen = false := by
  unfold forcedShell
  split
  · exact closedShell_shut forcing s sh
  · next shut => exact Bool.eq_false_iff.mpr shut

/-- Once the tails are cut every shell is COMPLETE. -/
theorem cutShell_isComplete (s : State) (sh : Shell) : (cutShell s sh).isComplete = true := by
  unfold cutShell completedIf
  split
  · refine isComplete_of ?_ (completed_isClosing _ _)
    exact Bool.eq_false_iff.mpr fun h => Bool.false_ne_true
      ((forcedShell_shut s sh).symm.trans ((completed_continues cutting _).stillOpen h))
  · next cut => exact isComplete_of (forcedShell_shut s sh) (Bool.eq_false_iff.mpr cut)

theorem tailsCut_shellsMove (s : State) : ShellsMove s (tailsCut s) :=
  (headStep1_shellsMove s).trans (completeOldest_shellsMove _ _ _ _)

theorem tailsCut_contexts {s : State} (one : s.OneOpen) :
    (tailsCut s).scs.contexts = s.scs.contexts.map (Option.map (cutShell s)) := by
  rw [tailsCut, completeOldest_contexts (fun _ h => h) _ (having_card_le _ _),
    headStep1_contexts one, Vector.map_map]
  refine congrArg (fun f => Vector.map f s.scs.contexts) (funext fun o => ?_)
  cases o <;> rfl

/-- Step 1 leaves every flag that no completion raises. -/
theorem tailsCut_flag {g : Machine.Flag} (hc : g ≠ .shellComplete) (ht : g ≠ .tailIrregular)
    {s : State} (one : s.OneOpen) : (tailsCut s).flag g = s.flag g := by
  rw [tailsCut, completeOldest_flag_other (fun _ h => h) _ hc ht (having_card_le _ _)]
  rcases open_cases s with shut | ⟨j, sh, hj, isOpen⟩
  · rw [headStep1_idle shut]
  · rw [headStep1_open one hj isOpen, enterClosing_flag hj]
    exact if_neg fun h => by simp only [hc, ht, false_and, or_self, and_false] at h

/-- Short of the ring step 1 raises nothing. -/
theorem headStep1_flag {s : State} (one : s.OneOpen) (short : 0 < ringGap s) (g : Machine.Flag) :
    s.headStep1.flag g = s.flag g := by
  rcases open_cases s with shut | ⟨j, sh, hj, isOpen⟩
  · rw [headStep1_idle shut]
  · rw [headStep1_open one hj isOpen, enterClosing_flag hj]
    exact if_neg fun h => short.ne' h.1

theorem forcedShell_closing {s : State} (short : 0 < ringGap s) (sh : Shell) :
    (forcedShell s sh).isClosing = sh.inRing := by
  unfold forcedShell Shell.inRing
  split
  · next isOpen => rw [closedShell_short short, isOpen]; rfl
  · next shut => rw [Bool.eq_false_iff.mpr shut, Bool.false_or]

/-- Short of the ring the shells CLOSING after step 1 are those that were in the ring. -/
theorem headStep1_oldestFirst {s : State} (one : s.OneOpen) (short : 0 < ringGap s)
    {numbers : List Nat} (h : s.OldestFirst Shell.inRing numbers) :
    s.headStep1.OldestFirst Shell.isClosing numbers := by
  obtain ⟨ascending, members⟩ := h
  refine ⟨ascending, fun q => (members q).trans ?_⟩
  have context : ∀ i : Fin 4,
      s.headStep1.scs.contexts[i] = s.scs.contexts[i].map (forcedShell s) := fun i => by
    rw [headStep1_contexts one]
    exact Vector.getElem_map _ i.isLt
  simp only [context, Option.map_eq_some_iff]
  constructor
  · rintro ⟨i, sh, hi, inRing, rfl⟩
    exact ⟨i, _, ⟨sh, hi, rfl⟩, (forcedShell_closing short sh).trans inRing,
      forcedShell_sequence s sh⟩
  · rintro ⟨i, _, ⟨sh, hi, rfl⟩, closing, rfl⟩
    exact ⟨i, sh, hi, (forcedShell_closing short sh).symm.trans closing,
      (forcedShell_sequence s sh).symm⟩

/-- Short of the ring every shell that was in the ring completes with TAIL_CUT, oldest first. -/
theorem tailsCut_occurs {s : State} (one : s.OneOpen) (short : 0 < ringGap s)
    (ordered : s.SequencesOrdered) {numbers : List Nat} (h : s.OldestFirst Shell.inRing numbers) :
    (tailsCut s).flag .shellComplete = (s.flag .shellComplete).occurEach numbers ∧
      (tailsCut s).flag .tailIrregular = (s.flag .tailIrregular).occurEach numbers := by
  have first := headStep1_oldestFirst one short h
  have ordered' := (headStep1_opensNone s).keepsDistinct.ordered ordered
  have always : (fun sh : Shell => sh.isClosing && (cutting sh.irregular).tail) =
      Shell.isClosing := by
    funext sh
    simp [cutting, Irregularity.tail]
  rw [← headStep1_flag one short, ← headStep1_flag one short]
  exact ⟨completeOldest_shellComplete (fun _ h => h) _ (having_card_le _ _) ordered' first,
    completeOldest_tailIrregular (fun _ h => h) _ (having_card_le _ _) ordered'
      (by rw [always]; exact first)⟩

/-! ### The context for the next shell (R76, R77) -/

/-- A context is taken for the next shell: the lowest-numbered FREE one, or the oldest report not
being streamed. -/
def TakenFor (s : State) (i : Fin 4) : Prop :=
  s.scs.contexts[i] = .none ∧ (∀ k : Fin 4, k < i → s.scs.contexts[k] ≠ .none) ∨
    (∀ k : Fin 4, s.scs.contexts[k] ≠ .none) ∧ s.oldest (reclaimable s) = .some i

/-- What the allocation of a context leaves: the context FREE, and its report lost if it had one. -/
structure Allocated (i : Fin 4) (s t : State) : Prop where
  allocate : s.allocate = (.some i, t)
  scs : t.scs = { s.scs with contexts := s.scs.contexts.set i .none }
  tbs : t.tbs = s.tbs
  tru : t.tru = s.tru
  flag : ∀ g, t.flag g = if g = .reportLost ∧ s.scs.contexts[i] ≠ .none then
      (s.flag g).occur (.some (s.sequenceAt i)) else s.flag g
  reportsLost : t.counters.scs.reportsLost = if s.scs.contexts[i] = .none then
      s.counters.scs.reportsLost else inc32 s.counters.scs.reportsLost

theorem allocated_of_taken {s : State} {i : Fin 4} (h : TakenFor s i) :
    ∃ t, Allocated i s t := by
  rcases h with ⟨free, below⟩ | ⟨full, oldest⟩
  · refine ⟨s, allocate_lowest free below, ?_, rfl, rfl, fun g => ?_, ?_⟩
    · have same : s.scs.contexts.set i .none = s.scs.contexts := by
        rw [← free, Fin.getElem_fin, Vector.set_getElem_self]
      rw [same]
    · rw [if_neg fun h => h.2 free]
    · rw [if_pos free]
  · refine ⟨reclaimed i s, allocate_reclaims full oldest, reclaimed_scs i s, by simp [reclaimed],
      by simp [reclaimed], fun g => ?_, ?_⟩
    · simp only [reclaimed_flag, full i, ne_eq, not_false_eq_true, and_true]
    · rw [reclaimed_counters, if_neg (full i)]

/-- In MEASURING a shell opened leaves the mode as it stands, without an examination (R78). -/
theorem settleOpened_measuring {s : State} (hm : s.scs.mode = .measuring) :
    s.settleOpened = { s with scs := measuring s.scs } := by
  unfold State.settleOpened
  dsimp only
  rw [hm]
  simp only [reduceCtorEq, if_false, measuring, hm]

/-- What follows a change that leaves the channels and the tables. -/
theorem ChannelsExamined.after_same {s t u : State} (h : ChannelsExamined t u)
    (hr : t.rfs.channels = s.rfs.channels) (ht : t.tbs = s.tbs) (he : t.etu = s.etu)
    (hc : t.counters.channels = s.counters.channels) : ChannelsExamined s u where
  issues c := by
    have issued := h.issues c
    rw [hr] at issued
    exact issued
  off i off := by
    rw [h.off i ((enabled_congr (by rw [ht]) i).trans off), hr]
  etu := h.etu.trans he
  cancelled i := by rw [h.cancelled, hc]

theorem settleMissed_channels (s : State) : ChannelsExamined s s.settleMissed := by
  unfold State.settleMissed
  split
  · exact .of_same rfl rfl rfl
  · exact settleMode_channels s

theorem allocate_counters_channels (s : State) :
    s.allocate.2.counters.channels = s.counters.channels := by
  unfold State.allocate
  repeat' split
  · rfl
  · rfl
  · exact raise_counters_channels _ _ (s.freeContext _)

/-- In MEASURING steps 3 and 4 examine the channels at most. -/
theorem headSteps34_channels {s : State} (hm : s.scs.mode = .measuring) :
    ChannelsExamined s s.headSteps34 := by
  have mode : s.allocate.2.scs.mode = .measuring := (allocate_readsAlike s).mode.trans hm
  have counters := allocate_counters_channels s
  rcases headSteps34_forms s with h | ⟨i, bank, h⟩ <;> rw [h]
  · exact (settleMissed_channels _).after_same (by simp) (by simp) (by simp)
      ((raise_counters_channels _ _ _).trans counters)
  · rw [settleOpened_measuring (by rw [openShell_scs]; exact mode)]
    exact .of_same (by simp) (by simp) ((raise_counters_channels _ _ _).trans counters)

section
variable {i : Fin 4} {s t : State} (h : Allocated i s t) (hm : s.scs.mode = .measuring)
include h hm

theorem Allocated.mode : t.scs.mode = .measuring := by rw [h.scs, hm]

/-- With a bank to bind the shell opens in MEASURING. -/
theorem Allocated.opened {bank : ProductBank} (hb : t.bindableBank = .some bank) : s.headSteps34 =
    { t.openShell i bank with scs := measuring (t.openShell i bank).scs } := by
  rw [headSteps34_opened h.allocate hb,
    settleOpened_measuring (by rw [openShell_scs]; exact h.mode hm)]

omit hm in
/-- With none it is missed, and an empty ring settles the mode. -/
theorem Allocated.missed (idle : t.gauging = false) (hb : t.bindableBank = .none) :
    s.headSteps34 = t.missShell.settleMode := by
  have still : t.missShell.gauging = false :=
    (gauging_congr (by rw [missShell_scs])).trans idle
  rw [headSteps34_missed h.allocate (.inr hb), State.settleMissed,
    if_neg (by rw [still]; exact Bool.false_ne_true)]

/-- SHELL_OPENED or SHELL_MISSED is raised, and no other flag. -/
theorem Allocated.ends_flag (idle : t.gauging = false) (g : Machine.Flag) :
    s.headSteps34.flag g =
      if g = .shellOpened ∧ t.bindableBank ≠ .none then
        (t.flag g).occur (.some t.scs.nextSequence)
      else if g = .shellMissed ∧ t.bindableBank = .none then (t.flag g).occur .none
      else t.flag g := by
  cases hb : t.bindableBank with
  | none =>
    rw [h.missed idle hb, settleMode_flag, missShell_flag]
    simp only [ne_eq, not_true_eq_false, and_false, if_false, and_true]
  | some bank =>
    rw [h.opened hm hb]
    refine (openShell_flag i bank t g).trans ?_
    simp only [ne_eq, reduceCtorEq, not_false_eq_true, and_true, and_false, if_false]

theorem Allocated.ends_reportsLost (idle : t.gauging = false) :
    s.headSteps34.counters.scs.reportsLost = t.counters.scs.reportsLost := by
  cases hb : t.bindableBank with
  | none => rw [h.missed idle hb, (settleMode_tracksOn _).shells, missShell_counters]
  | some bank =>
    rw [h.opened hm hb]
    exact congrArg (·.reportsLost) (openShell_counters_scs i bank t)

end

end Sys2Proof.Proofs
end

section
/-! PROOFS. The head-end in MEASURING (O31): the next shell behind the one it closes, and with an
activation pending the ring cut before it (R74 to R78, R91, R136, R137). -/

namespace Sys2Proof.Proofs

open Sys2Proof.Machine Sys2Proof.Laws

/-! ### With nothing pending -/

/-- The OPEN shell is closed, and the next opens in the lowest-numbered FREE context. -/
theorem headEnd_forces {s : State} {i j : Fin 4} {old : Shell} {bank : ProductBank}
    (one : s.OneOpen) (hm : s.scs.mode = .measuring) (free : s.tbs.activationPending = false)
    (hj : s.scs.contexts[j] = .some old) (isOpen : old.isOpen = true)
    (hi : s.scs.contexts[i] = .none) (below : ∀ k : Fin 4, k < i → s.scs.contexts[k] ≠ .none)
    (hn : s.scs.nextSequence ≠ 0) (hb : s.tbs.active.banks[s.tbs.selectedBank] = .some bank) :
    s.headEnd = { (s.enterClosing j forcing).openShell i bank with
      scs := measuring ((s.enterClosing j forcing).openShell i bank).scs } := by
  have step1 := headStep1_open one hj isOpen
  have moves := enterClosing_shellsMove j forcing s
  have contexts := enterClosing_contexts hj forcing
  generalize s.enterClosing j forcing = w at *
  have step2 : w.headStep2 = w := by
    rw [State.headStep2, if_neg (by rw [moves.tbs, free]; exact Bool.false_ne_true)]
  have apart : j ≠ i := fun e => by
    subst e
    cases hj.symm.trans hi
  have context : ∀ k : Fin 4, w.scs.contexts[k] = .none ↔ s.scs.contexts[k] = .none := by
    intro k
    rw [contexts, contexts_set_get]
    split
    · next e =>
      subst e
      simp [hj]
    · rfl
  have allocated := allocate_lowest ((context i).mpr hi) fun k hk none =>
    below k hk ((context k).mp none)
  have bound : w.bindableBank = .some bank := bindableBank_of (by rw [moves.scs]; exact hn)
    (by simp only [moves.tbs]; exact hb)
  have mode : (w.openShell i bank).scs.mode = .measuring := by
    rw [openShell_scs, moves.scs]
    exact hm
  rw [State.headEnd, if_neg (by rw [hm]; decide), step1, step2, headSteps34_opened allocated bound,
    settleOpened_measuring mode]

/-- What a head-end in `s` makes of it that closes the OPEN shell `old` of context `j` and opens the
next in context `i`. -/
structure TailForced (i j : Fin 4) (old : Shell) (bank : ProductBank) (s t : State) : Prop where
  scs : t.scs = ⟨(s.scs.contexts.set j (.some (closedShell forcing s old))).set i (.some
      (newShell bank s.scs.nextSequence s.tbs.generation s.currentLength)),
    nextSequenceAfter s.scs.nextSequence, .measuring, s.scs.parkRequest, .none⟩
  shellOpened : t.flag .shellOpened = (s.flag .shellOpened).occur (.some s.scs.nextSequence)
  completes : ∀ g, g = .shellComplete ∨ g = .tailIrregular →
    t.flag g = if 0 < ringGap s then s.flag g else (s.flag g).occur (.some old.sequence)
  flag : ∀ g, g ≠ .shellOpened → g ≠ .shellComplete → g ≠ .tailIrregular → t.flag g = s.flag g
  tru : t.tru = s.tru
  counted : t.counters.tru = s.counters.tru
  tbs : t.tbs = s.tbs
  rfs : t.rfs = s.rfs
  ali : t.ali = s.ali
  etu : t.etu = s.etu

theorem headEnd_tailForced {s : State} {i j : Fin 4} {old : Shell} {bank : ProductBank}
    (one : s.OneOpen) (hm : s.scs.mode = .measuring) (free : s.tbs.activationPending = false)
    (hj : s.scs.contexts[j] = .some old) (isOpen : old.isOpen = true)
    (hi : s.scs.contexts[i] = .none) (below : ∀ k : Fin 4, k < i → s.scs.contexts[k] ≠ .none)
    (hn : s.scs.nextSequence ≠ 0) (hb : s.tbs.active.banks[s.tbs.selectedBank] = .some bank) :
    TailForced i j old bank s s.headEnd := by
  rw [headEnd_forces one hm free hj isOpen hi below hn hb]
  have moves := enterClosing_shellsMove j forcing s
  have contexts := enterClosing_contexts hj forcing
  have closes := enterClosing_flag hj forcing
  generalize s.enterClosing j forcing = w at *
  have opens (g : Machine.Flag) : ({ w.openShell i bank with
      scs := measuring (w.openShell i bank).scs } : State).flag g =
        if g = .shellOpened then (w.flag g).occur (.some w.scs.nextSequence) else w.flag g :=
    openShell_flag i bank w g
  have length : w.currentLength = s.currentLength := by
    rw [State.currentLength, moves.tru]
    rfl
  have tail : (forcing old.irregular).tail = true := by
    simp only [forcing, Irregularity.tail, Bool.true_or]
  exact {
    scs := by
      rw [openShell_scs, contexts, length, moves.scs, moves.tbs]
      simp only [measuring, hm, reduceCtorEq, if_false]
    shellOpened := by
      rw [opens, if_pos rfl, moves.scs, closes, if_neg (by simp)]
    completes := fun g completion => by
      have other : g ≠ .shellOpened := by rintro rfl; simp at completion
      rw [opens, if_neg other, closes]
      simp only [tail, and_true, completion]
      rcases Nat.eq_zero_or_pos (ringGap s) with atRing | short
      · rw [if_pos atRing, if_neg (by omega)]
      · rw [if_neg short.ne', if_pos short]
    flag := fun g ho hc ht => by
      rw [opens, if_neg ho, closes,
        if_neg fun h => by simp only [hc, ht, false_and, or_self, and_false] at h]
    tru := (openShell_tru ..).trans moves.tru
    counted := (openShell_counters ..).2.trans (by rw [moves.counters])
    tbs := (openShell_tbs ..).trans moves.tbs
    rfs := (openShell_rfs ..).trans moves.rfs
    ali := (openShell_ali ..).trans moves.ali
    etu := (openShell_etu ..).trans moves.etu }

/-! ### With an activation pending -/

/-- What a head-end in `s` makes of it that cuts the ring and applies the staged set, with context
`i` taken for the next shell. -/
structure RingCut (i : Fin 4) (s t : State) : Prop where
  tbs : t.tbs = s.tbs.applied
  channels : s.ChannelsFollow t
  detector : t.DetectorFollows s.tbs.active.line s.tru
  tablesActivated : t.flag .tablesActivated = (s.flag .tablesActivated).occur .none
  completes : s.SequencesOrdered → 0 < ringGap s → ∀ numbers, s.OldestFirst Shell.inRing numbers →
    t.flag .shellComplete = (s.flag .shellComplete).occurEach numbers ∧
      t.flag .tailIrregular = (s.flag .tailIrregular).occurEach numbers
  reportLost : t.flag .reportLost = if s.scs.contexts[i] = .none then s.flag .reportLost
    else (s.flag .reportLost).occur (.some (s.sequenceAt i))
  reportsLost : t.counters.scs.reportsLost = if s.scs.contexts[i] = .none then
      s.counters.scs.reportsLost else inc32 s.counters.scs.reportsLost
  opened : ∀ bank, s.scs.nextSequence ≠ 0 →
    s.tbs.staged.banks[s.tbs.selectedBank] = .some bank →
    t.scs = ⟨(s.scs.contexts.map (Option.map (cutShell s))).set i (.some
        (newShell bank s.scs.nextSequence s.tbs.applied.generation s.currentLength)),
      nextSequenceAfter s.scs.nextSequence, .measuring, s.scs.parkRequest, .none⟩ ∧
    t.flag .shellOpened = (s.flag .shellOpened).occur (.some s.scs.nextSequence) ∧
    t.flag .shellMissed = s.flag .shellMissed
  missed : s.scs.nextSequence = 0 ∨ s.tbs.staged.banks[s.tbs.selectedBank] = .none →
    t.scs = { s.scs with
      contexts := (s.scs.contexts.map (Option.map (cutShell s))).set i .none
      mode := if s.scs.parkRequest then .parking else .standby
      drainTimer := if s.scs.parkRequest then
          .some ((s.tbs.staged.line.map (·.parkDrainLimit)).getD 0)
        else s.scs.drainTimer } ∧
    t.flag .shellMissed = (s.flag .shellMissed).occur .none ∧
    t.flag .shellOpened = s.flag .shellOpened
  flag : ∀ g, g ≠ .shellComplete → g ≠ .tailIrregular → g ≠ .tablesActivated → g ≠ .reportLost →
    g ≠ .shellOpened → g ≠ .shellMissed → t.flag g = s.flag g
  counted : t.counters.tru = s.counters.tru

/-- The state once the ring is cut and the staged set applied. -/
def ringApplied (s : State) : State := (tailsCut s).applyActivation

/-! ### The staged set applied in the cut ring -/

theorem ringApplied_tbs (s : State) : (ringApplied s).tbs = s.tbs.applied := by
  rw [ringApplied, (applyActivation_applied _).tbs, (tailsCut_shellsMove s).tbs]

theorem ringApplied_tracksOn (s : State) : TracksOn (tailsCut s) (ringApplied s) :=
  applyActivation_tracksOn _

theorem ringApplied_currentLength (s : State) :
    (ringApplied s).currentLength = s.currentLength := by
  rw [State.currentLength, (ringApplied_tracksOn s).lengthCounter, (tailsCut_shellsMove s).tru]
  rfl

theorem ringApplied_counters_scs (s : State) : (ringApplied s).counters.scs = s.counters.scs := by
  rw [(ringApplied_tracksOn s).shells, (tailsCut_shellsMove s).counters]

theorem ringApplied_counters_tru (s : State) : (ringApplied s).counters.tru = s.counters.tru := by
  rw [(ringApplied_tracksOn s).counted, (tailsCut_shellsMove s).counters]

theorem ringApplied_channels (s : State) : s.ChannelsFollow (ringApplied s) := by
  have moves := tailsCut_shellsMove s
  have counts : (tailsCut s).counters.channels = s.counters.channels := by rw [moves.counters]
  have follows := channelsFollow_of_applied (applyActivation_applied (tailsCut s))
  unfold State.ChannelsFollow at follows ⊢
  rw [moves.tbs, moves.rfs, moves.etu, counts] at follows
  exact follows

theorem ringApplied_detector (s : State) :
    (ringApplied s).DetectorFollows s.tbs.active.line s.tru := by
  have moves := tailsCut_shellsMove s
  have follows := (applyActivation_applied (tailsCut s)).detector
  rwa [moves.tbs, moves.tru] at follows

section
variable {s : State} (one : s.OneOpen)
include one

theorem ringApplied_flag {g : Machine.Flag} (hc : g ≠ .shellComplete) (ht : g ≠ .tailIrregular)
    (ha : g ≠ .tablesActivated) : (ringApplied s).flag g = s.flag g := by
  rw [ringApplied, (applyActivation_applied _).flag g ha, tailsCut_flag hc ht one]

theorem ringApplied_tablesActivated :
    (ringApplied s).flag .tablesActivated = (s.flag .tablesActivated).occur .none := by
  rw [ringApplied, (applyActivation_applied _).raised, tailsCut_flag (by decide) (by decide) one]

theorem ringApplied_completes (short : 0 < ringGap s) (ordered : s.SequencesOrdered)
    {numbers : List Nat} (h : s.OldestFirst Shell.inRing numbers) :
    (ringApplied s).flag .shellComplete = (s.flag .shellComplete).occurEach numbers ∧
      (ringApplied s).flag .tailIrregular = (s.flag .tailIrregular).occurEach numbers := by
  have applied := applyActivation_applied (tailsCut s)
  have occurs := tailsCut_occurs one short ordered h
  exact ⟨(applied.flag _ (by decide)).trans occurs.1, (applied.flag _ (by decide)).trans occurs.2⟩

variable (hm : s.scs.mode = .measuring)
include hm

theorem ringApplied_scs : (ringApplied s).scs =
    { s.scs with contexts := s.scs.contexts.map (Option.map (cutShell s)) } := by
  have moves := (tailsCut_shellsMove s).scs
  have mode : (tailsCut s).scs.mode ≠ .unconfigured := by
    rw [moves]
    dsimp only
    rw [hm]
    decide
  rw [ringApplied, applyActivation_scs, leftUnconfigured, if_neg mode, moves, tailsCut_contexts one]

theorem ringApplied_context (k : Fin 4) :
    (ringApplied s).scs.contexts[k] = s.scs.contexts[k].map (cutShell s) := by
  rw [ringApplied_scs one hm]
  exact Vector.getElem_map _ k.isLt

/-- The cut frees no context. -/
theorem ringApplied_free (k : Fin 4) :
    (ringApplied s).scs.contexts[k] = .none ↔ s.scs.contexts[k] = .none := by
  rw [ringApplied_context one hm, Option.map_eq_none_iff]

theorem ringApplied_sequenceAt (k : Fin 4) : (ringApplied s).sequenceAt k = s.sequenceAt k := by
  rw [State.sequenceAt, State.sequenceAt, ringApplied_context one hm, Option.map_map]
  exact congrArg (fun f => (s.scs.contexts[k].map f).getD 0) (funext (cutShell_sequence s))

/-- Once the ring is cut every shell is COMPLETE. -/
theorem ringApplied_idle {t : State} {i : Fin 4} (h : Allocated i (ringApplied s) t) :
    t.gauging = false := by
  rw [← Bool.not_eq_true, gauging_iff]
  rintro ⟨k, hk⟩
  obtain ⟨sh, found, inRing⟩ := (holds_iff t _ k).mp hk
  rw [h.scs, contexts_set_get, ringApplied_context one hm] at found
  split at found
  · cases found
  · obtain ⟨old, -, rfl⟩ := Option.map_eq_some_iff.mp found
    rw [isComplete_inRing (cutShell_isComplete s old)] at inRing
    cases inRing

/-! ### The next shell in the cut ring -/

variable {i : Fin 4} {z : State} (h : Allocated i (ringApplied s) z)
include h

/-- With a bank of the staged set to bind the next shell opens. -/
theorem cutRing_opened {bank : ProductBank} (hb : z.bindableBank = .some bank) :
    (ringApplied s).headSteps34.scs =
      ⟨(s.scs.contexts.map (Option.map (cutShell s))).set i (.some
        (newShell bank s.scs.nextSequence s.tbs.applied.generation s.currentLength)),
      nextSequenceAfter s.scs.nextSequence, .measuring, s.scs.parkRequest, .none⟩ := by
  have scs := ringApplied_scs one hm
  have length : z.currentLength = s.currentLength := by
    rw [← ringApplied_currentLength s, State.currentLength, h.tru]
    rfl
  rw [h.opened (by rw [scs, hm]) hb, openShell_scs, h.scs, scs, h.tbs, ringApplied_tbs, length]
  simp only [measuring, hm, reduceCtorEq, if_false, Vector.set_set]

/-- With none the shell is missed, and the mode leaves MEASURING. -/
theorem cutRing_missed (hb : z.bindableBank = .none) : (ringApplied s).headSteps34.scs =
    { s.scs with
      contexts := (s.scs.contexts.map (Option.map (cutShell s))).set i .none
      mode := if s.scs.parkRequest then .parking else .standby
      drainTimer := if s.scs.parkRequest then
          .some ((s.tbs.staged.line.map (·.parkDrainLimit)).getD 0)
        else s.scs.drainTimer } := by
  have field : z.missShell.lineField (·.parkDrainLimit) =
      (s.tbs.staged.line.map (·.parkDrainLimit)).getD 0 := by
    rw [State.lineField, State.line, missShell_tbs, h.tbs, ringApplied_tbs]
    rfl
  rw [h.missed (ringApplied_idle one hm h) hb, settleMode_scs, field, missShell_scs, h.scs,
    ringApplied_scs one hm]
  simp only [hm, if_true]

end

section
variable {s : State} (one : s.OneOpen) (hm : s.scs.mode = .measuring)
include one hm

theorem headEnd_cuts (pending : s.tbs.activationPending = true) {i : Fin 4}
    (taken : TakenFor (ringApplied s) i) : RingCut i s s.headEnd := by
  have steps : s.headEnd = (ringApplied s).headSteps34 := by
    rw [State.headEnd, if_neg (by rw [hm]; decide), headSteps12_pending pending]
    rfl
  have mode : (ringApplied s).scs.mode = .measuring := by rw [ringApplied_scs one hm, hm]
  have other := fun {g : Machine.Flag} => ringApplied_flag one (g := g)
  obtain ⟨z, allocated⟩ := allocated_of_taken taken
  have idle := ringApplied_idle one hm allocated
  have ends := allocated.ends_flag mode idle
  have kept : ∀ g, g ≠ .reportLost → z.flag g = (ringApplied s).flag g := fun g hg => by
    rw [allocated.flag, if_neg fun h => hg h.1]
  have passed : ∀ g, g ≠ .reportLost → g ≠ .shellOpened → g ≠ .shellMissed →
      (ringApplied s).headSteps34.flag g = (ringApplied s).flag g := fun g hr ho hs => by
    rw [ends, if_neg fun h => ho h.1, if_neg fun h => hs h.1, kept g hr]
  have number : z.scs.nextSequence = s.scs.nextSequence := by
    rw [allocated.scs, ringApplied_scs one hm]
  have tbs : z.tbs = s.tbs.applied := allocated.tbs.trans (ringApplied_tbs s)
  rw [steps]
  exact {
    tbs := (headSteps34_tbs _).trans (ringApplied_tbs s)
    channels := channelsFollow_examined (ringApplied_channels s) (by rw [ringApplied_tbs]; rfl)
      (headSteps34_channels mode)
    detector := detectorFollows_congr (headSteps34_tru _) (headSteps34_pins _) (headSteps34_tbs _)
      (ringApplied_detector s)
    tablesActivated := (passed _ (by decide) (by decide) (by decide)).trans
      (ringApplied_tablesActivated one)
    completes := fun ordered short numbers h => by
      rw [passed _ (by decide) (by decide) (by decide),
        passed _ (by decide) (by decide) (by decide)]
      exact ringApplied_completes one short ordered h
    reportLost := by
      rw [ends, allocated.flag, ringApplied_sequenceAt one hm,
        other (by decide) (by decide) (by decide)]
      simp only [reduceCtorEq, false_and, if_false, true_and, ne_eq, ite_not,
        ringApplied_free one hm]
    reportsLost := by
      rw [allocated.ends_reportsLost mode idle, allocated.reportsLost, ringApplied_counters_scs]
      simp only [ringApplied_free one hm]
    opened := fun bank hn hb => by
      have bound : z.bindableBank = .some bank :=
        bindableBank_of (number ▸ hn) (by simp only [tbs]; exact hb)
      refine ⟨cutRing_opened one hm allocated bound, ?_, ?_⟩ <;>
        rw [ends, kept _ (by decide), other (by decide) (by decide) (by decide), number, bound] <;>
        simp only [reduceCtorEq, ne_eq, not_false_eq_true, and_true, and_false, if_true, if_false]
    missed := fun unbindable => by
      have unbound : z.bindableBank = .none := bindableBank_none fun ⟨hn, hb⟩ => by
        simp only [tbs, number] at hn hb
        exact unbindable.elim hn hb
      refine ⟨cutRing_missed one hm allocated unbound, ?_, ?_⟩ <;>
        rw [ends, kept _ (by decide), other (by decide) (by decide) (by decide), unbound] <;>
        simp only [reduceCtorEq, ne_eq, not_true_eq_false, and_false, and_true, if_true, if_false]
    flag := fun g hc ht ha hr ho hs => (passed g hr ho hs).trans (other hc ht ha)
    counted := (headSteps34_counters_tru _).trans (ringApplied_counters_tru s) }

end

/-! ### The shells cut, by their phase (R75, R136) -/

theorem cutShell_opened {s : State} {sh : Shell} {openTime : Nat}
    (hp : sh.phase = .opened openTime) : cutShell s sh =
      { sh with
        phase := .complete s.currentLength, runs := Vector.replicate 8 .none
        irregular := { sh.irregular with
          tailForced := true
          tailCut := if 0 < ringGap s then true else sh.irregular.tailCut } } := by
  have isOpen : sh.isOpen = true := (isOpen_iff sh).mpr ⟨openTime, hp⟩
  rw [cutShell, forcedShell, if_pos isOpen]
  rcases Nat.eq_zero_or_pos (ringGap s) with atRing | short
  · rw [closedShell_atRing atRing, if_neg (by omega)]
    rfl
  · rw [closedShell_short short, if_pos short]
    rfl

theorem cutShell_closing {s : State} {sh : Shell} {tailMark timer completion : Nat}
    (hp : sh.phase = .closing tailMark timer completion) :
    cutShell s sh =
      { sh with
        phase := .complete tailMark, runs := Vector.replicate 8 .none
        irregular := { sh.irregular with tailCut := true } } := by
  simp only [cutShell, forcedShell, completedIf, completed, Shell.isOpen, Shell.isClosing, hp,
    Bool.false_eq_true, if_false, if_true, cutting]
  rfl

theorem cutShell_complete {s : State} {sh : Shell} {tailMark : Nat}
    (hp : sh.phase = .complete tailMark) : cutShell s sh = sh := by
  simp only [cutShell, forcedShell, completedIf, Shell.isOpen, Shell.isClosing, hp,
    Bool.false_eq_true, if_false]

/-- A shell cut is streamed as it was. -/
theorem cutShell_streamed (s : State) (sh : Shell) :
    (ringApplied s).streamed (cutShell s sh) = s.streamed sh := by
  have rpb : (ringApplied s).rpb = s.rpb := by
    rw [ringApplied, applyActivation_rpb, tailsCut_shellsMove s]
  rw [State.streamed, State.streamed, rpb, cutShell_sequence]

/-- In the cut ring every report not being streamed may be reclaimed. -/
theorem ringApplied_reclaimable {s : State} (one : s.OneOpen) (hm : s.scs.mode = .measuring)
    (k : Fin 4) : (ringApplied s).holds (reclaimable (ringApplied s)) k =
      s.holds (fun sh => !s.streamed sh) k := by
  rw [State.holds, State.holds, ringApplied_context one hm, Option.any_map]
  refine congrArg (fun p => s.scs.contexts[k].any p) (funext fun sh => ?_)
  simp only [reclaimable, cutShell_isComplete, cutShell_streamed, Bool.true_and]

/-- The context taken in the cut ring is told by the state the head-end finds. -/
theorem takenFor_ringApplied {s : State} (one : s.OneOpen) (hm : s.scs.mode = .measuring)
    {i : Fin 4}
    (h : s.scs.contexts[i] = .none ∧ (∀ k : Fin 4, k < i → s.scs.contexts[k] ≠ .none) ∨
      (∀ k : Fin 4, s.scs.contexts[k] ≠ .none) ∧ s.holds (fun sh => !s.streamed sh) i = true ∧
        ∀ k : Fin 4, k ≠ i → s.holds (fun sh => !s.streamed sh) k = true →
          s.sequenceAt i < s.sequenceAt k) : TakenFor (ringApplied s) i := by
  unfold TakenFor
  simp only [ne_eq, ringApplied_free one hm]
  refine h.imp_right fun ⟨full, spare, oldest⟩ => ⟨full, oldest_eq ?_ fun k hk apart => ?_⟩
  · rw [ringApplied_reclaimable one hm, spare]
  · rw [ringApplied_reclaimable one hm] at hk
    rw [ringApplied_sequenceAt one hm, ringApplied_sequenceAt one hm]
    exact oldest k apart hk

/-- Settles O31: with nothing pending the OPEN shell is closed before the next opens; with an
activation pending the ring is cut, the staged set applied, and the next shell taken under it. -/
theorem headEndForcesTheTail : Obligations.HeadEndForcesTheTail := by
  unfold Obligations.HeadEndForcesTheTail
  intro s u row from_row one hm mark gap nextNumber
  obtain ⟨q, exec_eq⟩ := exec_headEndFrom from_row
  have length : (rowState s u q).currentLength = mark := (headEndFrom_ends from_row).currentLength q
  refine ⟨fun i j old bank free hj isOpen hi below hn hb => ?_, fun i pending => ?_⟩
  · have forced := headEnd_tailForced (s := rowState s u q) one hm free hj isOpen hi below hn hb
    have closed : closedShell forcing (rowState s u q) old =
        { old with
          phase := if 0 < gap then .closing mark (s.lineField (·.tailTimeout))
              (mark + s.lineField (·.ringOffset) + s.lineField (·.tailMargin))
            else .complete mark
          runs := if 0 < gap then old.runs else Vector.replicate 8 .none
          irregular := { old.irregular with tailForced := true } } := by
      rw [closedShell, length]
      rfl
    refine ⟨_, newShell bank s.scs.nextSequence s.tbs.generation mark, exec_eq,
      newShell_fresh .., ?_, ?_, ?_, ?_, rowEnd_cmu .., ?_, ?_, ?_, ?_, ?_, ?_, ?_, ?_, ?_⟩
    · rw [← closed, ← length, rowEnd_scs, forced.scs]
      rfl
    · rw [rowEnd_flag, forced.shellOpened]
      rfl
    · intro g completion
      rw [rowEnd_flag, forced.completes g completion]
      rfl
    · intro g ho hc ht
      rw [rowEnd_flag, forced.flag g ho hc ht]
      rfl
    · rw [rowEnd_tru, forced.tru]
      rfl
    · rw [rowEnd_counters, forced.counted]
      rfl
    · rw [rowEnd_tbs, forced.tbs]
      rfl
    · rw [rowEnd_channels, forced.rfs]
      rfl
    · rw [rowEnd_ali, forced.ali]
      rfl
    · rw [rowEnd_etu, forced.etu]
      rfl
    · rw [rowEnd_rpb, headEnd_rpb]
      rfl
    · rw [rowEnd_ldu, headEnd_ldu]
      rfl
    · rw [rowEnd_mli, headEnd_mli]
      rfl
  · intro cut contexts reclaimable takenHere taken
    have ring := headEnd_cuts (s := rowState s u q) one hm pending
      (takenFor_ringApplied (s := rowState s u q) one hm taken)
    have fields : contexts = s.scs.contexts.map (Option.map (cutShell (rowState s u q))) := by
      refine congrArg (fun f => s.scs.contexts.map (Option.map f)) (funext fun sh => ?_)
      simp only [cut]
      split
      · next hp =>
        rw [cutShell_opened hp, length]
        rfl
      · next hp => exact (cutShell_closing hp).symm
      · next hp => exact (cutShell_complete hp).symm
    rw [fields]
    refine ⟨_, exec_eq, ?_, ?_, ?_, ?_, ?_, ?_, ?_, ?_, ?_, ?_, rowEnd_cmu .., ?_, ?_, ?_, ?_, ?_⟩
    · rw [rowEnd_tbs, ring.tbs]
      rfl
    · exact channelsFollow_examined (u := (rowState s u q).headEnd) ring.channels
        (by rw [ring.tbs]; rfl) (.of_same (rowEnd_channels ..) (rowEnd_etu ..)
          (congrArg (·.channels) (rowEnd_counters ..)))
    · exact detectorFollows_congr (rowEnd_tru ..) (rowEnd_pins ..) (rowEnd_tbs ..) ring.detector
    · rw [rowEnd_flag, ring.tablesActivated]
      rfl
    · intro ordered short numbers h
      rw [rowEnd_flag, rowEnd_flag]
      exact ring.completes ordered short numbers h
    · rw [rowEnd_flag, ring.reportLost]
      rfl
    · rw [rowEnd_counters, ring.reportsLost]
      rfl
    · intro bank hn hb
      rw [rowEnd_scs, rowEnd_flag, rowEnd_flag, ← length]
      exact ⟨_, newShell_fresh .., ring.opened bank hn hb⟩
    · intro unbindable
      rw [rowEnd_scs, rowEnd_flag, rowEnd_flag]
      exact ring.missed unbindable
    · intro g hc ht ha hr ho hs
      rw [rowEnd_flag]
      exact ring.flag g hc ht ha hr ho hs
    · rw [rowEnd_counters, ring.counted]
      rfl
    · rw [rowEnd_rpb, headEnd_rpb]
      rfl
    · rw [rowEnd_ldu, headEnd_ldu]
      rfl
    · rw [rowEnd_mli, headEnd_mli]
      rfl
    · rw [rowEnd_pins, headEnd_pins]
      rfl

end Sys2Proof.Proofs
end
